-- ==== Sys2Proof/Word.lean ====
section
/-! DEFINITION. The block's words (00_scope.md R10, R11): 32-bit words, 16-bit sub-fields, bytes and frames. -/

namespace Sys2Proof

/-- A 32-bit word: a register, a parameter word, a checksum (R10). -/
abbrev Word := BitVec 32

/-- A 16-bit sub-field of a word (R86). -/
abbrev Sub16 := BitVec 16

/-- A byte of the link or of a byte-addressed bus (R64, R65). -/
abbrev Byte := BitVec 8

/-- The parameter words `P[1..N_P]`, `P[i]` at index `i - 1` (R11): room for the default `N_P` = 11 (R5). With a smaller
`N_P` the words past it do not exist and hold 0 (log 4). -/
abbrev Params := Vector Word 11

/-- A frame `f[0..N_P+1]`: opcode, parameter words, checksum (R11, R82): room for the default `N_P` = 11 (R5). With a
smaller `N_P` the words past the checksum do not exist and hold 0 (log 4). -/
abbrev Frame := Vector Word 13

end Sys2Proof
end

