-- ==== Sys2Proof/Config.lean ====
section
/-! DEFINITION. What is constant for one block instance (00_scope.md R5 to R8), and the values the spec leaves open. -/

namespace Sys2Proof

/-- The two 16-bit halves of a word: `hi` is bits 31:16, `lo` is bits 15:0 (R86). -/
inductive Half where
  | hi
  | lo
deriving DecidableEq, Repr

/-- `WIRE_BYTE_ORDER` (R7, R65). -/
inductive ByteOrder where
  | little
  | big
deriving DecidableEq, Repr

/-- The parameters a model takes (R6, R7): constants of one block instance (R8).
The OPEN ones (R6) have no value here; the decided ones (R7) have their defaults in `Config.chip`. -/
structure Config where
  /-- `N_P`, the parameter words of a frame: default 11, alternative 10 (R5, 90_conflicts.md C1). At most 11: the opcode
  table has rows for PARAM[1..11], TX[0..12] and RX[0..12] (log 4). -/
  nP : Fin 12
  /-- `OPC_NONE`, R6: read by no rule (R193). -/
  opcNone : Word
  /-- `OPC_REPORT_INFO`, R6: the probe of IDENTIFY. -/
  opcReportInfo : Word
  /-- `OPC_SETUP`, R6: the probe of CONFIGURE. -/
  opcSetup : Word
  /-- `OPC_LISTENING`, R6. -/
  opcListening : Word
  /-- `OPC_BL_LISTENING`, R6. -/
  opcBlListening : Word
  /-- `OPC_BL_ERASE_ALL`, R6. -/
  opcBlEraseAll : Word
  /-- `OPC_BL_WRITE_FIRMWARE`, R6. -/
  opcBlWriteFirmware : Word
  /-- `P_READY_COST`, R6: the reset value of READY_COST. -/
  pReadyCost : Word
  /-- `P_MIN_FW`, R6: the reset value of MIN_FW. -/
  pMinFw : Sub16
  /-- `CRC_POLY`, R7. -/
  crcPoly : Word
  /-- `CRC_INIT`, R7. -/
  crcInit : Word
  /-- `WIRE_BYTE_ORDER`, R7. -/
  wireByteOrder : ByteOrder
  /-- `VERSION_FIELD`, R7. -/
  versionField : Half
  /-- `PSET_LAYOUT`, R7: for each `PSET[k]` the index (`PARAM[i]` is index `i - 1`) and the half it goes to (R145). -/
  psetLayout : Vector (Fin 11 × Half) 10
  /-- `WINDOW_BASE`, R6, R68: the host address of the window's offset 0. -/
  windowBase : Nat
deriving DecidableEq, Repr

/-- `FRAME_WORDS = N_P + 2` (R5). -/
def Config.frameWords (cfg : Config) : Nat := cfg.nP.val + 2
/-- `CRC_WORDS = N_P + 1`: the words the checksum covers, 0 to `N_P` (R5, 90_conflicts.md C1). -/
def Config.crcWordCount (cfg : Config) : Nat := cfg.nP.val + 1
/-- `N_P + 1`: where the checksum stands in a frame (R82). -/
def Config.crcIndex (cfg : Config) : Fin 13 := cfg.nP.succ
/-- Reset value of OUTER_BUDGET (R5, R31). -/
def outerBudgetReset : Word := 5000#32
/-- Reset value of INNER_BUDGET (R5, R32). -/
def innerBudgetReset : Word := 100#32
/-- `POLL_MS` (R5). -/
def pollMs : Word := 1#32
/-- `ERASE_SETTLE_MS` (R5). -/
def eraseSettleMs : Word := 600#32
/-- `WRITE_SETTLE_MS` (R5). -/
def writeSettleMs : Word := 10#32
/-- `ID_ATTEMPTS` (R5). -/
def idAttempts : Word := 5#32
/-- `CFG_ATTEMPTS` (R5). -/
def cfgAttempts : Word := 10#32
/-- `BACKOFF_MS` (R5). -/
def backoffMs : Word := 300#32
/-- `VERSION_SENTINEL` (R5). -/
def versionSentinel : Sub16 := 9999#16

/-- The numeric values of the wire opcodes, OPEN (R6, R88; log 2). Any permutation of the 32-bit words: its values at
seven distinct arguments are any seven pairwise distinct words, which is all R6 says of the `OPC_*` values. -/
opaque Config.openOpcode : Equiv.Perm Word

/-- `P_READY_COST`, OPEN (R6; log 1). -/
opaque Config.openReadyCost : Word

/-- `P_MIN_FW`, OPEN (R6; log 1). -/
opaque Config.openMinFw : Sub16

/-- `WINDOW_BASE`, OPEN (R6, R68; log 20). -/
opaque Config.openWindowBase : Nat

/-- The draw number `n` of `any32` (R12, R166; log 9): a value under no law. -/
opaque Config.any32 : Nat → Word

/-- The default `PSET_LAYOUT` (41_parameter_packing.md R145). -/
def Config.defaultPsetLayout : Vector (Fin 11 × Half) 10 :=
  #v[(0, .hi), (0, .lo), (1, .hi), (1, .lo), (2, .hi), (2, .lo), (3, .hi), (3, .lo), (4, .hi), (4, .lo)]

/-- The block instance of `State.reset`: the OPEN values unknown (R6), the decided ones at
their defaults (R7; log 3), `N_P` = 11 (R5; log 4). -/
def Config.chip : Config where
  nP := 11
  opcNone := Config.openOpcode 0#32
  opcReportInfo := Config.openOpcode 1#32
  opcSetup := Config.openOpcode 2#32
  opcListening := Config.openOpcode 3#32
  opcBlListening := Config.openOpcode 4#32
  opcBlEraseAll := Config.openOpcode 5#32
  opcBlWriteFirmware := Config.openOpcode 6#32
  pReadyCost := Config.openReadyCost
  pMinFw := Config.openMinFw
  crcPoly := 0x04C11DB7#32
  crcInit := 0xFFFFFFFF#32
  wireByteOrder := .little
  versionField := .lo
  psetLayout := Config.defaultPsetLayout
  windowBase := Config.openWindowBase

end Sys2Proof
end

