-- ==== Sys2Proof/Syntax.lean ====
section
/-! DEFINITION. The block's instructions, one constructor per row of spec/opcode_table.json (30_encoding.md R80 to R94),
the host's bus accesses, and the pseudo-instructions of R93. -/

namespace Sys2Proof

/-- One constructor per row of the opcode table. CMD rows are the values written to CTRL (R83, R84); ACCESS rows are the
host accesses, a write with its DATA (R81); WIRE rows are the values of FRAME word 0 the spec names (R87). -/
inductive Instr where
  /-- `NOP`, R230. -/
  | nop
  /-- `ENCODE`, R116. -/
  | encode
  /-- `VERIFY`, R118. -/
  | verify
  /-- `HANDSHAKE`, R180. -/
  | handshake
  /-- `IDENTIFY`, R210. -/
  | identify
  /-- `CONFIGURE`, R216. -/
  | configure
  /-- `PACK_PSET`, R146. -/
  | packPset
  /-- `UNPACK_PSET`, R147. -/
  | unpackPset
  /-- `CLEAR_STATUS`, R231. -/
  | clearStatus
  /-- `WR_CTRL`, R232. -/
  | wrCtrl (data : Word)
  /-- `RD_CTRL`, R234. -/
  | rdCtrl
  /-- `RD_STATUS`, R234. -/
  | rdStatus
  /-- `WR_STATUS`, R236. -/
  | wrStatus (data : Word)
  /-- `CRC_RESET`, R111. -/
  | crcReset (data : Word)
  /-- `RD_CRC_CTRL`, R234. -/
  | rdCrcCtrl
  /-- `CRC_FEED`, R112. -/
  | crcFeed (data : Word)
  /-- `CRC_READ`, R120. -/
  | crcRead
  /-- `PK_WRITE`, R141. -/
  | pkWrite (data : Word)
  /-- `PK_READ`, R144. -/
  | pkRead
  /-- `PK_HI_WRITE`, R142. -/
  | pkHiWrite (data : Word)
  /-- `PK_HI_READ`, R142. -/
  | pkHiRead
  /-- `PK_LO_WRITE`, R143. -/
  | pkLoWrite (data : Word)
  /-- `PK_LO_READ`, R143. -/
  | pkLoRead
  /-- `RD_VERSION`, R234. -/
  | rdVersion
  /-- `WR_VERSION`, R236. -/
  | wrVersion (data : Word)
  /-- `RD_OUTER_BUDGET`, R234. -/
  | rdOuterBudget
  /-- `WR_OUTER_BUDGET`, R235. -/
  | wrOuterBudget (data : Word)
  /-- `RD_INNER_BUDGET`, R234. -/
  | rdInnerBudget
  /-- `WR_INNER_BUDGET`, R235. -/
  | wrInnerBudget (data : Word)
  /-- `RD_READY_COST`, R234. -/
  | rdReadyCost
  /-- `WR_READY_COST`, R235. -/
  | wrReadyCost (data : Word)
  /-- `RD_MIN_FW`, R234. -/
  | rdMinFw
  /-- `WR_MIN_FW`, R235. -/
  | wrMinFw (data : Word)
  /-- `RD_OUTER_REMAIN`, R234. -/
  | rdOuterRemain
  /-- `WR_OUTER_REMAIN`, R236. -/
  | wrOuterRemain (data : Word)
  /-- `RD_INNER_COUNT`, R234. -/
  | rdInnerCount
  /-- `WR_INNER_COUNT`, R236. -/
  | wrInnerCount (data : Word)
  /-- `RD_ATTEMPT`, R234. -/
  | rdAttempt
  /-- `WR_ATTEMPT`, R236. -/
  | wrAttempt (data : Word)
  /-- `RD_OPCODE`, R234. -/
  | rdOpcode
  /-- `WR_OPCODE`, R235. -/
  | wrOpcode (data : Word)
  /-- `RD_PARAM[1]`, R234. -/
  | rdParam1
  /-- `WR_PARAM[1]`, R235. -/
  | wrParam1 (data : Word)
  /-- `RD_PARAM[2]`, R234. -/
  | rdParam2
  /-- `WR_PARAM[2]`, R235. -/
  | wrParam2 (data : Word)
  /-- `RD_PARAM[3]`, R234. -/
  | rdParam3
  /-- `WR_PARAM[3]`, R235. -/
  | wrParam3 (data : Word)
  /-- `RD_PARAM[4]`, R234. -/
  | rdParam4
  /-- `WR_PARAM[4]`, R235. -/
  | wrParam4 (data : Word)
  /-- `RD_PARAM[5]`, R234. -/
  | rdParam5
  /-- `WR_PARAM[5]`, R235. -/
  | wrParam5 (data : Word)
  /-- `RD_PARAM[6]`, R234. -/
  | rdParam6
  /-- `WR_PARAM[6]`, R235. -/
  | wrParam6 (data : Word)
  /-- `RD_PARAM[7]`, R234. -/
  | rdParam7
  /-- `WR_PARAM[7]`, R235. -/
  | wrParam7 (data : Word)
  /-- `RD_PARAM[8]`, R234. -/
  | rdParam8
  /-- `WR_PARAM[8]`, R235. -/
  | wrParam8 (data : Word)
  /-- `RD_PARAM[9]`, R234. -/
  | rdParam9
  /-- `WR_PARAM[9]`, R235. -/
  | wrParam9 (data : Word)
  /-- `RD_PARAM[10]`, R234. -/
  | rdParam10
  /-- `WR_PARAM[10]`, R235. -/
  | wrParam10 (data : Word)
  /-- `RD_PARAM[11]`, R234. -/
  | rdParam11
  /-- `WR_PARAM[11]`, R235. -/
  | wrParam11 (data : Word)
  /-- `RD_TX[0]`, R234. -/
  | rdTx0
  /-- `WR_TX[0]`, R236. -/
  | wrTx0 (data : Word)
  /-- `RD_TX[1]`, R234. -/
  | rdTx1
  /-- `WR_TX[1]`, R236. -/
  | wrTx1 (data : Word)
  /-- `RD_TX[2]`, R234. -/
  | rdTx2
  /-- `WR_TX[2]`, R236. -/
  | wrTx2 (data : Word)
  /-- `RD_TX[3]`, R234. -/
  | rdTx3
  /-- `WR_TX[3]`, R236. -/
  | wrTx3 (data : Word)
  /-- `RD_TX[4]`, R234. -/
  | rdTx4
  /-- `WR_TX[4]`, R236. -/
  | wrTx4 (data : Word)
  /-- `RD_TX[5]`, R234. -/
  | rdTx5
  /-- `WR_TX[5]`, R236. -/
  | wrTx5 (data : Word)
  /-- `RD_TX[6]`, R234. -/
  | rdTx6
  /-- `WR_TX[6]`, R236. -/
  | wrTx6 (data : Word)
  /-- `RD_TX[7]`, R234. -/
  | rdTx7
  /-- `WR_TX[7]`, R236. -/
  | wrTx7 (data : Word)
  /-- `RD_TX[8]`, R234. -/
  | rdTx8
  /-- `WR_TX[8]`, R236. -/
  | wrTx8 (data : Word)
  /-- `RD_TX[9]`, R234. -/
  | rdTx9
  /-- `WR_TX[9]`, R236. -/
  | wrTx9 (data : Word)
  /-- `RD_TX[10]`, R234. -/
  | rdTx10
  /-- `WR_TX[10]`, R236. -/
  | wrTx10 (data : Word)
  /-- `RD_TX[11]`, R234. -/
  | rdTx11
  /-- `WR_TX[11]`, R236. -/
  | wrTx11 (data : Word)
  /-- `RD_TX[12]`, R234. -/
  | rdTx12
  /-- `WR_TX[12]`, R236. -/
  | wrTx12 (data : Word)
  /-- `RD_RX[0]`, R234. -/
  | rdRx0
  /-- `WR_RX[0]`, R235. -/
  | wrRx0 (data : Word)
  /-- `RD_RX[1]`, R234. -/
  | rdRx1
  /-- `WR_RX[1]`, R235. -/
  | wrRx1 (data : Word)
  /-- `RD_RX[2]`, R234. -/
  | rdRx2
  /-- `WR_RX[2]`, R235. -/
  | wrRx2 (data : Word)
  /-- `RD_RX[3]`, R234. -/
  | rdRx3
  /-- `WR_RX[3]`, R235. -/
  | wrRx3 (data : Word)
  /-- `RD_RX[4]`, R234. -/
  | rdRx4
  /-- `WR_RX[4]`, R235. -/
  | wrRx4 (data : Word)
  /-- `RD_RX[5]`, R234. -/
  | rdRx5
  /-- `WR_RX[5]`, R235. -/
  | wrRx5 (data : Word)
  /-- `RD_RX[6]`, R234. -/
  | rdRx6
  /-- `WR_RX[6]`, R235. -/
  | wrRx6 (data : Word)
  /-- `RD_RX[7]`, R234. -/
  | rdRx7
  /-- `WR_RX[7]`, R235. -/
  | wrRx7 (data : Word)
  /-- `RD_RX[8]`, R234. -/
  | rdRx8
  /-- `WR_RX[8]`, R235. -/
  | wrRx8 (data : Word)
  /-- `RD_RX[9]`, R234. -/
  | rdRx9
  /-- `WR_RX[9]`, R235. -/
  | wrRx9 (data : Word)
  /-- `RD_RX[10]`, R234. -/
  | rdRx10
  /-- `WR_RX[10]`, R235. -/
  | wrRx10 (data : Word)
  /-- `RD_RX[11]`, R234. -/
  | rdRx11
  /-- `WR_RX[11]`, R235. -/
  | wrRx11 (data : Word)
  /-- `RD_RX[12]`, R234. -/
  | rdRx12
  /-- `WR_RX[12]`, R235. -/
  | wrRx12 (data : Word)
  /-- `RD_PSET[0]`, R234. -/
  | rdPset0
  /-- `WR_PSET[0]`, R235. -/
  | wrPset0 (data : Word)
  /-- `RD_PSET[1]`, R234. -/
  | rdPset1
  /-- `WR_PSET[1]`, R235. -/
  | wrPset1 (data : Word)
  /-- `RD_PSET[2]`, R234. -/
  | rdPset2
  /-- `WR_PSET[2]`, R235. -/
  | wrPset2 (data : Word)
  /-- `RD_PSET[3]`, R234. -/
  | rdPset3
  /-- `WR_PSET[3]`, R235. -/
  | wrPset3 (data : Word)
  /-- `RD_PSET[4]`, R234. -/
  | rdPset4
  /-- `WR_PSET[4]`, R235. -/
  | wrPset4 (data : Word)
  /-- `RD_PSET[5]`, R234. -/
  | rdPset5
  /-- `WR_PSET[5]`, R235. -/
  | wrPset5 (data : Word)
  /-- `RD_PSET[6]`, R234. -/
  | rdPset6
  /-- `WR_PSET[6]`, R235. -/
  | wrPset6 (data : Word)
  /-- `RD_PSET[7]`, R234. -/
  | rdPset7
  /-- `WR_PSET[7]`, R235. -/
  | wrPset7 (data : Word)
  /-- `RD_PSET[8]`, R234. -/
  | rdPset8
  /-- `WR_PSET[8]`, R235. -/
  | wrPset8 (data : Word)
  /-- `RD_PSET[9]`, R234. -/
  | rdPset9
  /-- `WR_PSET[9]`, R235. -/
  | wrPset9 (data : Word)
  /-- `OPC_NONE`, R193. -/
  | opcNone
  /-- `OPC_REPORT_INFO`, R210. -/
  | opcReportInfo
  /-- `OPC_SETUP`, R216. -/
  | opcSetup
  /-- `OPC_LISTENING`, R186. -/
  | opcListening
  /-- `OPC_BL_LISTENING`, R186. -/
  | opcBlListening
  /-- `OPC_BL_ERASE_ALL`, R189. -/
  | opcBlEraseAll
  /-- `OPC_BL_WRITE_FIRMWARE`, R189. -/
  | opcBlWriteFirmware
deriving DecidableEq, Repr

/-- The command codes of CMD.OP (R84). -/
inductive Command where
  | nop
  | encode
  | verify
  | handshake
  | identify
  | configure
  | packPset
  | unpackPset
  | clearStatus
deriving DecidableEq, Repr

/-- DIR of the ACCESS format (R81). -/
inductive Dir where
  | read
  | write
deriving DecidableEq, Repr

/-- The widths a host bus transaction can have (R61). -/
inductive BusWidth where
  | w8
  | w16
  | w32
  | w64
deriving DecidableEq, Repr

/-- One host bus transaction at a byte offset from WINDOW_BASE (R12, R61, R81). -/
structure Access where
  width : BusWidth
  dir : Dir
  off : Nat
  data : Word
deriving DecidableEq, Repr

/-- `wr`: a 32-bit write of `v` at offset `off` (R92). -/
def Access.wr (off : Nat) (v : Word) : Access := { width := .w32, dir := .write, off := off, data := v }

/-- `rd`: a 32-bit read at offset `off`, DATA 0 (R81, R92). -/
def Access.rd (off : Nat) : Access := { width := .w32, dir := .read, off := off, data := 0#32 }

/-- The pseudo-instructions of R93. The number of reads of `wait` is not fixed: it is an argument here. -/
inductive Pseudo where
  | cmd (c : Command)
  | crcreset
  | crcfeed (value : Word)
  | wait (reads : Nat)
  | pack (h l : Word)
  | unpack (w : Word)
deriving DecidableEq, Repr

end Sys2Proof
end

