-- ==== Sys2Proof/Decode.lean ====
section
/-! DEFINITION. The decoder (total, rejecting by name) and the encoder of the block's words (30_encoding.md R80 to R94). -/

namespace Sys2Proof

/-- The bit DIR (R81). -/
def Dir.bit : Dir → BitVec 1
  | .read => 0#1
  | .write => 1#1

/-- The 42-bit ACCESS word `DIR ++ OFF ++ DATA` (R81). -/
def accessWord (dir : Dir) (off : BitVec 9) (data : Word) : BitVec 42 := dir.bit ++ off ++ data

/-- DIR, bit 41 (R81). -/
def accessDir (w : BitVec 42) : Dir := if w.extractLsb' 41 1 = 1#1 then .write else .read

/-- OFF, bits 40:32 (R81). -/
def accessOff (w : BitVec 42) : BitVec 9 := w.extractLsb' 32 9

/-- DATA, bits 31:0 (R81). -/
def accessData (w : BitVec 42) : Word := w.extractLsb' 0 32

/-- A row of the opcode table in format ACCESS, keyed by DIR and OFF (R94). -/
structure AccessRow where
  dir : Dir
  off : BitVec 9
  build : Word → Instr

/-- The ACCESS rows of the control, status, CRC and packing registers (R21, R81). -/
def controlRows : List AccessRow := [
  ⟨.write, 0x000#9, .wrCtrl⟩,
  ⟨.read, 0x000#9, fun _ => .rdCtrl⟩,
  ⟨.read, 0x004#9, fun _ => .rdStatus⟩,
  ⟨.write, 0x004#9, .wrStatus⟩,
  ⟨.write, 0x008#9, .crcReset⟩,
  ⟨.read, 0x008#9, fun _ => .rdCrcCtrl⟩,
  ⟨.write, 0x00C#9, .crcFeed⟩,
  ⟨.read, 0x00C#9, fun _ => .crcRead⟩,
  ⟨.write, 0x010#9, .pkWrite⟩,
  ⟨.read, 0x010#9, fun _ => .pkRead⟩,
  ⟨.write, 0x014#9, .pkHiWrite⟩,
  ⟨.read, 0x014#9, fun _ => .pkHiRead⟩,
  ⟨.write, 0x018#9, .pkLoWrite⟩,
  ⟨.read, 0x018#9, fun _ => .pkLoRead⟩,
  ⟨.read, 0x01C#9, fun _ => .rdVersion⟩,
  ⟨.write, 0x01C#9, .wrVersion⟩]

/-- The ACCESS rows of the budgets, limits, counters and OPCODE (R21, R81). -/
def engineRows : List AccessRow := [
  ⟨.read, 0x020#9, fun _ => .rdOuterBudget⟩,
  ⟨.write, 0x020#9, .wrOuterBudget⟩,
  ⟨.read, 0x024#9, fun _ => .rdInnerBudget⟩,
  ⟨.write, 0x024#9, .wrInnerBudget⟩,
  ⟨.read, 0x028#9, fun _ => .rdReadyCost⟩,
  ⟨.write, 0x028#9, .wrReadyCost⟩,
  ⟨.read, 0x02C#9, fun _ => .rdMinFw⟩,
  ⟨.write, 0x02C#9, .wrMinFw⟩,
  ⟨.read, 0x030#9, fun _ => .rdOuterRemain⟩,
  ⟨.write, 0x030#9, .wrOuterRemain⟩,
  ⟨.read, 0x034#9, fun _ => .rdInnerCount⟩,
  ⟨.write, 0x034#9, .wrInnerCount⟩,
  ⟨.read, 0x038#9, fun _ => .rdAttempt⟩,
  ⟨.write, 0x038#9, .wrAttempt⟩,
  ⟨.read, 0x040#9, fun _ => .rdOpcode⟩,
  ⟨.write, 0x040#9, .wrOpcode⟩]

/-- The ACCESS rows of PARAM[1..11] (R21, R81). -/
def paramRows : List AccessRow := [
  ⟨.read, 0x044#9, fun _ => .rdParam1⟩,
  ⟨.write, 0x044#9, .wrParam1⟩,
  ⟨.read, 0x048#9, fun _ => .rdParam2⟩,
  ⟨.write, 0x048#9, .wrParam2⟩,
  ⟨.read, 0x04C#9, fun _ => .rdParam3⟩,
  ⟨.write, 0x04C#9, .wrParam3⟩,
  ⟨.read, 0x050#9, fun _ => .rdParam4⟩,
  ⟨.write, 0x050#9, .wrParam4⟩,
  ⟨.read, 0x054#9, fun _ => .rdParam5⟩,
  ⟨.write, 0x054#9, .wrParam5⟩,
  ⟨.read, 0x058#9, fun _ => .rdParam6⟩,
  ⟨.write, 0x058#9, .wrParam6⟩,
  ⟨.read, 0x05C#9, fun _ => .rdParam7⟩,
  ⟨.write, 0x05C#9, .wrParam7⟩,
  ⟨.read, 0x060#9, fun _ => .rdParam8⟩,
  ⟨.write, 0x060#9, .wrParam8⟩,
  ⟨.read, 0x064#9, fun _ => .rdParam9⟩,
  ⟨.write, 0x064#9, .wrParam9⟩,
  ⟨.read, 0x068#9, fun _ => .rdParam10⟩,
  ⟨.write, 0x068#9, .wrParam10⟩,
  ⟨.read, 0x06C#9, fun _ => .rdParam11⟩,
  ⟨.write, 0x06C#9, .wrParam11⟩]

/-- The ACCESS rows of TX[0..12] (R21, R81). -/
def txRows : List AccessRow := [
  ⟨.read, 0x080#9, fun _ => .rdTx0⟩,
  ⟨.write, 0x080#9, .wrTx0⟩,
  ⟨.read, 0x084#9, fun _ => .rdTx1⟩,
  ⟨.write, 0x084#9, .wrTx1⟩,
  ⟨.read, 0x088#9, fun _ => .rdTx2⟩,
  ⟨.write, 0x088#9, .wrTx2⟩,
  ⟨.read, 0x08C#9, fun _ => .rdTx3⟩,
  ⟨.write, 0x08C#9, .wrTx3⟩,
  ⟨.read, 0x090#9, fun _ => .rdTx4⟩,
  ⟨.write, 0x090#9, .wrTx4⟩,
  ⟨.read, 0x094#9, fun _ => .rdTx5⟩,
  ⟨.write, 0x094#9, .wrTx5⟩,
  ⟨.read, 0x098#9, fun _ => .rdTx6⟩,
  ⟨.write, 0x098#9, .wrTx6⟩,
  ⟨.read, 0x09C#9, fun _ => .rdTx7⟩,
  ⟨.write, 0x09C#9, .wrTx7⟩,
  ⟨.read, 0x0A0#9, fun _ => .rdTx8⟩,
  ⟨.write, 0x0A0#9, .wrTx8⟩,
  ⟨.read, 0x0A4#9, fun _ => .rdTx9⟩,
  ⟨.write, 0x0A4#9, .wrTx9⟩,
  ⟨.read, 0x0A8#9, fun _ => .rdTx10⟩,
  ⟨.write, 0x0A8#9, .wrTx10⟩,
  ⟨.read, 0x0AC#9, fun _ => .rdTx11⟩,
  ⟨.write, 0x0AC#9, .wrTx11⟩,
  ⟨.read, 0x0B0#9, fun _ => .rdTx12⟩,
  ⟨.write, 0x0B0#9, .wrTx12⟩]

/-- The ACCESS rows of RX[0..12] (R21, R81). -/
def rxRows : List AccessRow := [
  ⟨.read, 0x0C0#9, fun _ => .rdRx0⟩,
  ⟨.write, 0x0C0#9, .wrRx0⟩,
  ⟨.read, 0x0C4#9, fun _ => .rdRx1⟩,
  ⟨.write, 0x0C4#9, .wrRx1⟩,
  ⟨.read, 0x0C8#9, fun _ => .rdRx2⟩,
  ⟨.write, 0x0C8#9, .wrRx2⟩,
  ⟨.read, 0x0CC#9, fun _ => .rdRx3⟩,
  ⟨.write, 0x0CC#9, .wrRx3⟩,
  ⟨.read, 0x0D0#9, fun _ => .rdRx4⟩,
  ⟨.write, 0x0D0#9, .wrRx4⟩,
  ⟨.read, 0x0D4#9, fun _ => .rdRx5⟩,
  ⟨.write, 0x0D4#9, .wrRx5⟩,
  ⟨.read, 0x0D8#9, fun _ => .rdRx6⟩,
  ⟨.write, 0x0D8#9, .wrRx6⟩,
  ⟨.read, 0x0DC#9, fun _ => .rdRx7⟩,
  ⟨.write, 0x0DC#9, .wrRx7⟩,
  ⟨.read, 0x0E0#9, fun _ => .rdRx8⟩,
  ⟨.write, 0x0E0#9, .wrRx8⟩,
  ⟨.read, 0x0E4#9, fun _ => .rdRx9⟩,
  ⟨.write, 0x0E4#9, .wrRx9⟩,
  ⟨.read, 0x0E8#9, fun _ => .rdRx10⟩,
  ⟨.write, 0x0E8#9, .wrRx10⟩,
  ⟨.read, 0x0EC#9, fun _ => .rdRx11⟩,
  ⟨.write, 0x0EC#9, .wrRx11⟩,
  ⟨.read, 0x0F0#9, fun _ => .rdRx12⟩,
  ⟨.write, 0x0F0#9, .wrRx12⟩]

/-- The ACCESS rows of PSET[0..9] (R21, R81). -/
def psetRows : List AccessRow := [
  ⟨.read, 0x100#9, fun _ => .rdPset0⟩,
  ⟨.write, 0x100#9, .wrPset0⟩,
  ⟨.read, 0x104#9, fun _ => .rdPset1⟩,
  ⟨.write, 0x104#9, .wrPset1⟩,
  ⟨.read, 0x108#9, fun _ => .rdPset2⟩,
  ⟨.write, 0x108#9, .wrPset2⟩,
  ⟨.read, 0x10C#9, fun _ => .rdPset3⟩,
  ⟨.write, 0x10C#9, .wrPset3⟩,
  ⟨.read, 0x110#9, fun _ => .rdPset4⟩,
  ⟨.write, 0x110#9, .wrPset4⟩,
  ⟨.read, 0x114#9, fun _ => .rdPset5⟩,
  ⟨.write, 0x114#9, .wrPset5⟩,
  ⟨.read, 0x118#9, fun _ => .rdPset6⟩,
  ⟨.write, 0x118#9, .wrPset6⟩,
  ⟨.read, 0x11C#9, fun _ => .rdPset7⟩,
  ⟨.write, 0x11C#9, .wrPset7⟩,
  ⟨.read, 0x120#9, fun _ => .rdPset8⟩,
  ⟨.write, 0x120#9, .wrPset8⟩,
  ⟨.read, 0x124#9, fun _ => .rdPset9⟩,
  ⟨.write, 0x124#9, .wrPset9⟩]

/-- Every row of format ACCESS, for the default `N_P` = 11 (R21, R94). -/
def accessRows : List AccessRow := controlRows ++ engineRows ++ paramRows ++ txRows ++ rxRows ++ psetRows

/-- The offsets R21 lists for `np` parameter words, by its formulas: the complement in the window is reserved (R63). -/
def offsetListed (np off : Nat) : Bool :=
  off % 4 == 0 &&
    (decide (off ≤ 0x038) || (decide (0x040 ≤ off) && decide (off ≤ 0x040 + 4 * np)) ||
      (decide (0x080 ≤ off) && decide (off ≤ 0x080 + 4 * (np + 1))) ||
      (decide (0x0C0 ≤ off) && decide (off ≤ 0x0C0 + 4 * (np + 1))) || (decide (0x100 ≤ off) && decide (off ≤ 0x124)))

/-- The row an ACCESS word belongs to (R94); `none` is a reserved or misaligned offset (R90), for `N_P` < 11 also one past
the last PARAM, TX or RX word (R21). The DATA of a read is not looked at (the rows' mask leaves it out; log 14). -/
def decodeAccess (cfg : Config) (w : BitVec 42) : Option Instr :=
  if offsetListed cfg.nP.val (accessOff w).toNat then
    (accessRows.find? fun r => r.dir == accessDir w && r.off == accessOff w).map fun r => r.build (accessData w)
  else none

/-- The code of a command, CMD.OP (R84). -/
def Command.code : Command → Word
  | .nop => 0x0#32
  | .encode => 0x1#32
  | .verify => 0x2#32
  | .handshake => 0x3#32
  | .identify => 0x4#32
  | .configure => 0x5#32
  | .packPset => 0x6#32
  | .unpackPset => 0x7#32
  | .clearStatus => 0x8#32

/-- The row of format CMD of a command (R84). -/
def Command.toInstr : Command → Instr
  | .nop => .nop
  | .encode => .encode
  | .verify => .verify
  | .handshake => .handshake
  | .identify => .identify
  | .configure => .configure
  | .packPset => .packPset
  | .unpackPset => .unpackPset
  | .clearStatus => .clearStatus

/-- Every command (R84). -/
def commands : List Command := [.nop, .encode, .verify, .handshake, .identify, .configure, .packPset, .unpackPset, .clearStatus]

/-- Command decode (R85, less its busy test): RES bits 31:4 are 0 and OP is one of 0x0 to 0x8; `none` is a reserved
encoding, which R233 rejects. -/
def decodeCommand (v : Word) : Option Command :=
  if v.extractLsb' 4 28 = 0#28 then commands.find? fun c => c.code.extractLsb' 0 4 == v.extractLsb' 0 4 else none

/-- The WIRE row of a FRAME word 0 (R87, R88): equality with an `OPC_*` value; `none` is any other opcode, which is
legal on the wire (R88). -/
def decodeWire (cfg : Config) (opc : Word) : Option Instr :=
  if opc = cfg.opcReportInfo then some .opcReportInfo
  else if opc = cfg.opcSetup then some .opcSetup
  else if opc = cfg.opcListening then some .opcListening
  else if opc = cfg.opcBlListening then some .opcBlListening
  else if opc = cfg.opcBlEraseAll then some .opcBlEraseAll
  else if opc = cfg.opcBlWriteFirmware then some .opcBlWriteFirmware
  else if opc = cfg.opcNone then some .opcNone
  else none

/-- Why a host access ends in BusError, in the order of R253. -/
inductive BusErrorCause where
  /-- an access of width other than 32 bits (R61). -/
  | width
  /-- `off[1:0] != 0` (R62). -/
  | misaligned
  /-- an offset R21 does not list (R63). -/
  | reserved
deriving DecidableEq, Repr

/-- What the block's bus decoder reads from a host access (R63, R94). -/
inductive BusDecode where
  /-- one row of the opcode table. -/
  | instr (i : Instr)
  /-- the access ends in BusError (R250). -/
  | busError (cause : BusErrorCause)
  /-- the offset is outside the window, which the block does not decode (R63). -/
  | outside
deriving DecidableEq, Repr

/-- The ACCESS word of a 32-bit access inside the window (R81). -/
def Access.word (a : Access) : BitVec 42 := accessWord a.dir (BitVec.ofNat 9 a.off) a.data

/-- The access of an ACCESS word (R81). -/
def Access.ofWord (w : BitVec 42) : Access :=
  { width := .w32, dir := accessDir w, off := (accessOff w).toNat, data := accessData w }

/-- Decode of a host access, with the priority of R253 (1) to (3). -/
def decodeBus (cfg : Config) (a : Access) : BusDecode :=
  if 0x200 ≤ a.off then .outside
  else if a.width ≠ .w32 then .busError .width
  else if a.off % 4 ≠ 0 then .busError .misaligned
  else match decodeAccess cfg a.word with
    | some i => .instr i
    | none => .busError .reserved

/-- The offset of a host address: the platform places the window at WINDOW_BASE (R68). -/
def windowOffset (cfg : Config) (addr : Nat) : Option Nat :=
  if cfg.windowBase ≤ addr ∧ addr < cfg.windowBase + 0x200 then some (addr - cfg.windowBase) else none

/-- A word of one of the instruction formats (R80): the value written to CTRL, an ACCESS word, FRAME word 0. The format
is told by where the word stands, not by its bits. -/
inductive Encoded where
  | cmd (v : Word)
  | access (w : BitVec 42)
  | wire (opc : Word)
deriving DecidableEq, Repr

/-- The instruction a word of each format stands for (R94). -/
def decode (cfg : Config) : Encoded → Option Instr
  | .cmd v => (decodeCommand v).map Command.toInstr
  | .access w => decodeAccess cfg w
  | .wire opc => decodeWire cfg opc

/-- The word of each instruction, from the encoding tables R21, R81, R84 and R87. -/
def encode (cfg : Config) : Instr → Encoded
  | .nop => .cmd 0x00000000#32
  | .encode => .cmd 0x00000001#32
  | .verify => .cmd 0x00000002#32
  | .handshake => .cmd 0x00000003#32
  | .identify => .cmd 0x00000004#32
  | .configure => .cmd 0x00000005#32
  | .packPset => .cmd 0x00000006#32
  | .unpackPset => .cmd 0x00000007#32
  | .clearStatus => .cmd 0x00000008#32
  | .wrCtrl data => .access (accessWord .write 0x000#9 data)
  | .rdCtrl => .access (accessWord .read 0x000#9 0#32)
  | .rdStatus => .access (accessWord .read 0x004#9 0#32)
  | .wrStatus data => .access (accessWord .write 0x004#9 data)
  | .crcReset data => .access (accessWord .write 0x008#9 data)
  | .rdCrcCtrl => .access (accessWord .read 0x008#9 0#32)
  | .crcFeed data => .access (accessWord .write 0x00C#9 data)
  | .crcRead => .access (accessWord .read 0x00C#9 0#32)
  | .pkWrite data => .access (accessWord .write 0x010#9 data)
  | .pkRead => .access (accessWord .read 0x010#9 0#32)
  | .pkHiWrite data => .access (accessWord .write 0x014#9 data)
  | .pkHiRead => .access (accessWord .read 0x014#9 0#32)
  | .pkLoWrite data => .access (accessWord .write 0x018#9 data)
  | .pkLoRead => .access (accessWord .read 0x018#9 0#32)
  | .rdVersion => .access (accessWord .read 0x01C#9 0#32)
  | .wrVersion data => .access (accessWord .write 0x01C#9 data)
  | .rdOuterBudget => .access (accessWord .read 0x020#9 0#32)
  | .wrOuterBudget data => .access (accessWord .write 0x020#9 data)
  | .rdInnerBudget => .access (accessWord .read 0x024#9 0#32)
  | .wrInnerBudget data => .access (accessWord .write 0x024#9 data)
  | .rdReadyCost => .access (accessWord .read 0x028#9 0#32)
  | .wrReadyCost data => .access (accessWord .write 0x028#9 data)
  | .rdMinFw => .access (accessWord .read 0x02C#9 0#32)
  | .wrMinFw data => .access (accessWord .write 0x02C#9 data)
  | .rdOuterRemain => .access (accessWord .read 0x030#9 0#32)
  | .wrOuterRemain data => .access (accessWord .write 0x030#9 data)
  | .rdInnerCount => .access (accessWord .read 0x034#9 0#32)
  | .wrInnerCount data => .access (accessWord .write 0x034#9 data)
  | .rdAttempt => .access (accessWord .read 0x038#9 0#32)
  | .wrAttempt data => .access (accessWord .write 0x038#9 data)
  | .rdOpcode => .access (accessWord .read 0x040#9 0#32)
  | .wrOpcode data => .access (accessWord .write 0x040#9 data)
  | .rdParam1 => .access (accessWord .read 0x044#9 0#32)
  | .wrParam1 data => .access (accessWord .write 0x044#9 data)
  | .rdParam2 => .access (accessWord .read 0x048#9 0#32)
  | .wrParam2 data => .access (accessWord .write 0x048#9 data)
  | .rdParam3 => .access (accessWord .read 0x04C#9 0#32)
  | .wrParam3 data => .access (accessWord .write 0x04C#9 data)
  | .rdParam4 => .access (accessWord .read 0x050#9 0#32)
  | .wrParam4 data => .access (accessWord .write 0x050#9 data)
  | .rdParam5 => .access (accessWord .read 0x054#9 0#32)
  | .wrParam5 data => .access (accessWord .write 0x054#9 data)
  | .rdParam6 => .access (accessWord .read 0x058#9 0#32)
  | .wrParam6 data => .access (accessWord .write 0x058#9 data)
  | .rdParam7 => .access (accessWord .read 0x05C#9 0#32)
  | .wrParam7 data => .access (accessWord .write 0x05C#9 data)
  | .rdParam8 => .access (accessWord .read 0x060#9 0#32)
  | .wrParam8 data => .access (accessWord .write 0x060#9 data)
  | .rdParam9 => .access (accessWord .read 0x064#9 0#32)
  | .wrParam9 data => .access (accessWord .write 0x064#9 data)
  | .rdParam10 => .access (accessWord .read 0x068#9 0#32)
  | .wrParam10 data => .access (accessWord .write 0x068#9 data)
  | .rdParam11 => .access (accessWord .read 0x06C#9 0#32)
  | .wrParam11 data => .access (accessWord .write 0x06C#9 data)
  | .rdTx0 => .access (accessWord .read 0x080#9 0#32)
  | .wrTx0 data => .access (accessWord .write 0x080#9 data)
  | .rdTx1 => .access (accessWord .read 0x084#9 0#32)
  | .wrTx1 data => .access (accessWord .write 0x084#9 data)
  | .rdTx2 => .access (accessWord .read 0x088#9 0#32)
  | .wrTx2 data => .access (accessWord .write 0x088#9 data)
  | .rdTx3 => .access (accessWord .read 0x08C#9 0#32)
  | .wrTx3 data => .access (accessWord .write 0x08C#9 data)
  | .rdTx4 => .access (accessWord .read 0x090#9 0#32)
  | .wrTx4 data => .access (accessWord .write 0x090#9 data)
  | .rdTx5 => .access (accessWord .read 0x094#9 0#32)
  | .wrTx5 data => .access (accessWord .write 0x094#9 data)
  | .rdTx6 => .access (accessWord .read 0x098#9 0#32)
  | .wrTx6 data => .access (accessWord .write 0x098#9 data)
  | .rdTx7 => .access (accessWord .read 0x09C#9 0#32)
  | .wrTx7 data => .access (accessWord .write 0x09C#9 data)
  | .rdTx8 => .access (accessWord .read 0x0A0#9 0#32)
  | .wrTx8 data => .access (accessWord .write 0x0A0#9 data)
  | .rdTx9 => .access (accessWord .read 0x0A4#9 0#32)
  | .wrTx9 data => .access (accessWord .write 0x0A4#9 data)
  | .rdTx10 => .access (accessWord .read 0x0A8#9 0#32)
  | .wrTx10 data => .access (accessWord .write 0x0A8#9 data)
  | .rdTx11 => .access (accessWord .read 0x0AC#9 0#32)
  | .wrTx11 data => .access (accessWord .write 0x0AC#9 data)
  | .rdTx12 => .access (accessWord .read 0x0B0#9 0#32)
  | .wrTx12 data => .access (accessWord .write 0x0B0#9 data)
  | .rdRx0 => .access (accessWord .read 0x0C0#9 0#32)
  | .wrRx0 data => .access (accessWord .write 0x0C0#9 data)
  | .rdRx1 => .access (accessWord .read 0x0C4#9 0#32)
  | .wrRx1 data => .access (accessWord .write 0x0C4#9 data)
  | .rdRx2 => .access (accessWord .read 0x0C8#9 0#32)
  | .wrRx2 data => .access (accessWord .write 0x0C8#9 data)
  | .rdRx3 => .access (accessWord .read 0x0CC#9 0#32)
  | .wrRx3 data => .access (accessWord .write 0x0CC#9 data)
  | .rdRx4 => .access (accessWord .read 0x0D0#9 0#32)
  | .wrRx4 data => .access (accessWord .write 0x0D0#9 data)
  | .rdRx5 => .access (accessWord .read 0x0D4#9 0#32)
  | .wrRx5 data => .access (accessWord .write 0x0D4#9 data)
  | .rdRx6 => .access (accessWord .read 0x0D8#9 0#32)
  | .wrRx6 data => .access (accessWord .write 0x0D8#9 data)
  | .rdRx7 => .access (accessWord .read 0x0DC#9 0#32)
  | .wrRx7 data => .access (accessWord .write 0x0DC#9 data)
  | .rdRx8 => .access (accessWord .read 0x0E0#9 0#32)
  | .wrRx8 data => .access (accessWord .write 0x0E0#9 data)
  | .rdRx9 => .access (accessWord .read 0x0E4#9 0#32)
  | .wrRx9 data => .access (accessWord .write 0x0E4#9 data)
  | .rdRx10 => .access (accessWord .read 0x0E8#9 0#32)
  | .wrRx10 data => .access (accessWord .write 0x0E8#9 data)
  | .rdRx11 => .access (accessWord .read 0x0EC#9 0#32)
  | .wrRx11 data => .access (accessWord .write 0x0EC#9 data)
  | .rdRx12 => .access (accessWord .read 0x0F0#9 0#32)
  | .wrRx12 data => .access (accessWord .write 0x0F0#9 data)
  | .rdPset0 => .access (accessWord .read 0x100#9 0#32)
  | .wrPset0 data => .access (accessWord .write 0x100#9 data)
  | .rdPset1 => .access (accessWord .read 0x104#9 0#32)
  | .wrPset1 data => .access (accessWord .write 0x104#9 data)
  | .rdPset2 => .access (accessWord .read 0x108#9 0#32)
  | .wrPset2 data => .access (accessWord .write 0x108#9 data)
  | .rdPset3 => .access (accessWord .read 0x10C#9 0#32)
  | .wrPset3 data => .access (accessWord .write 0x10C#9 data)
  | .rdPset4 => .access (accessWord .read 0x110#9 0#32)
  | .wrPset4 data => .access (accessWord .write 0x110#9 data)
  | .rdPset5 => .access (accessWord .read 0x114#9 0#32)
  | .wrPset5 data => .access (accessWord .write 0x114#9 data)
  | .rdPset6 => .access (accessWord .read 0x118#9 0#32)
  | .wrPset6 data => .access (accessWord .write 0x118#9 data)
  | .rdPset7 => .access (accessWord .read 0x11C#9 0#32)
  | .wrPset7 data => .access (accessWord .write 0x11C#9 data)
  | .rdPset8 => .access (accessWord .read 0x120#9 0#32)
  | .wrPset8 data => .access (accessWord .write 0x120#9 data)
  | .rdPset9 => .access (accessWord .read 0x124#9 0#32)
  | .wrPset9 data => .access (accessWord .write 0x124#9 data)
  | .opcNone => .wire cfg.opcNone
  | .opcReportInfo => .wire cfg.opcReportInfo
  | .opcSetup => .wire cfg.opcSetup
  | .opcListening => .wire cfg.opcListening
  | .opcBlListening => .wire cfg.opcBlListening
  | .opcBlEraseAll => .wire cfg.opcBlEraseAll
  | .opcBlWriteFirmware => .wire cfg.opcBlWriteFirmware

/-- What the host's list of rows asks: the instruction of a table word of `nbits` bits (log 16). The 32-bit rows are CMD
values and, where no CMD row matches, WIRE values; the 42-bit rows (48 bits in whole bytes) are ACCESS words. -/
def decodeTableWord (nbits w : Nat) : Option Instr :=
  if nbits = 32 then
    if w < 2 ^ 32 then
      match decodeCommand (BitVec.ofNat 32 w) with
      | some c => some c.toInstr
      | none => decodeWire Config.chip (BitVec.ofNat 32 w)
    else none
  else if (nbits = 42 ∨ nbits = 48) ∧ w < 2 ^ 42 then decodeAccess Config.chip (BitVec.ofNat 42 w)
  else none

/-- The accesses a pseudo-instruction stands for (R93). -/
def Pseudo.expand : Pseudo → List Access
  | .cmd c => [Access.wr 0x000 c.code]
  | .crcreset => [Access.wr 0x008 1#32]
  | .crcfeed value => [Access.wr 0x00C value]
  | .wait reads => List.replicate reads (Access.rd 0x004)
  | .pack h l => [Access.wr 0x014 h, Access.wr 0x018 l]
  | .unpack w => [Access.wr 0x010 w]

end Sys2Proof
end

