-- ==== Sys2Proof/Machine/State.lean ====
section
/-! DEFINITION. The state of the block (10_state.md), the observation of a run (R15), and what the agents outside the
block still do to it (R9). -/

namespace Sys2Proof.Machine

open Sys2Proof

/-- Why the machine stops. -/
inductive Fault where
  /-- Raised by `step` for a host access outside the window, at byte offset `off` (R63: not decoded by the block; what
  the platform answers is not the block's). Safe: the model stops where the spec gives the block no behaviour. -/
  | outsideWindow (off : Nat)
deriving DecidableEq, Repr

/-- Why the model refuses an instruction. -/
inductive Refusal where
  /-- Raised by `exec` for an instruction whose meaning is not written. No arm raises it. Safe. -/
  | notModelled (mnemonic : String)
deriving DecidableEq, Repr

/-- `STATUS.RESULT` (R25); codes 8 to 15 are never written. -/
inductive ResultCode where
  | none
  | ok
  | timeout
  | protocol
  | identified
  | notDetected
  | configured
  | configIncomplete
deriving DecidableEq, Repr

/-- `STATUS.RX_KIND` (R26). -/
inductive RxKind where
  | other
  | listening
  | blListening
  | echo
deriving DecidableEq, Repr

/-- `ESTATE`, the engine's microstate (R40); codes 14 and 15 never occur. -/
inductive EState where
  | idle
  | hsOuterCheck
  | hsOuterSleep
  | hsOuterPoll
  | hsOuterXfer
  | hsInnerCheck
  | hsInnerSettle
  | hsInnerSleep
  | hsInnerPoll
  | hsInnerXfer
  | sqStart
  | sqReset
  | sqBackoff
  | sqEval
deriving DecidableEq, Repr

/-- `EOP`, the long command running (R44, R45). -/
inductive EOp where
  | none
  | handshake
  | identify
  | configure
deriving DecidableEq, Repr

/-- `HS_RES`, the outcome of the handshake just finished (R44). -/
inductive HsResult where
  | ok
  | timeout
  | protocol
deriving DecidableEq, Repr

/-- A port transaction with the environment's answer (R160). A failed `Exchange` has no reply. -/
inductive PortEvent where
  | sleep (ms : Word)
  | ready (b : Bool)
  | exchange (sent : Frame) (reply : Option Frame)
  | resetDev
deriving DecidableEq, Repr

/-- What the host bus saw of one access (R15, R250): the value a read returned, a write that completed, or BusError. -/
inductive BusEvent where
  | read (off : Nat) (value : Word)
  | written (off : Nat) (value : Word)
  | error (off : Nat)
deriving DecidableEq, Repr

/-- The environment's answer to whatever transaction the engine's step issues (R160, R168; log 7): whether it completes
it at all (R169), the answer to `Ready()` (R163), and the answer `(ok, g)` to `Exchange` (R165), `g` being the first
`FRAME_WORDS` words of `reply`. -/
structure EnvAnswer where
  completes : Bool
  ready : Bool
  ok : Bool
  reply : Frame
deriving DecidableEq, Repr

/-- One step of the interleaving (R9, R70; log 6): the host's next access, an engine step with the environment's
answer, or block reset (R270). -/
inductive Input where
  | host (a : Access)
  | engine (ans : EnvAnswer)
  | blockReset
deriving DecidableEq, Repr

/-- The block's state. INVENTORY.md lists each field with its rule and reset value. -/
structure State where
  /-- the constants of this block instance (R8): written by nothing. -/
  cfg : Config
  /-- STATUS.RESULT (R25). -/
  result : ResultCode
  /-- STATUS.CRC_OK (R26). -/
  crcOk : Bool
  /-- STATUS.RX_KIND (R26). -/
  rxKind : RxKind
  /-- STATUS.XFER_FAIL (R26). -/
  xferFail : Bool
  /-- STATUS.CMD_REJECTED, sticky (R27). -/
  cmdRejected : Bool
  /-- STATUS.WERR, sticky (R27). -/
  werr : Bool
  /-- CRC_ACC, the host's accumulator (R29). -/
  crcAcc : Word
  /-- PK (R30). -/
  pk : Word
  /-- VERSION bits 15:0 (R35). -/
  version : Sub16
  /-- OUTER_BUDGET (R31). -/
  outerBudget : Word
  /-- INNER_BUDGET (R32). -/
  innerBudget : Word
  /-- READY_COST (R33). -/
  readyCost : Word
  /-- MIN_FW bits 15:0 (R34). -/
  minFw : Sub16
  /-- OUTER_REMAIN (R36). -/
  outerRemain : Word
  /-- INNER_COUNT (R37). -/
  innerCount : Word
  /-- ATTEMPT (R38). -/
  attempt : Word
  /-- OPCODE (R39). -/
  opcode : Word
  /-- PARAM[1..N_P] (R39). -/
  param : Params
  /-- TX[0..N_P+1] (R41). -/
  tx : Frame
  /-- RX[0..N_P+1] (R42). -/
  rx : Frame
  /-- PSET[0..9] bits 15:0 (R43). -/
  pset : Vector Sub16 10
  /-- ESTATE (R40). -/
  estate : EState
  /-- EOP (R44). -/
  eop : EOp
  /-- HS_RES (R44). -/
  hsRes : HsResult
  /-- the port transactions so far, oldest first (R15, R160). -/
  trace : List PortEvent
  /-- the host accesses completed so far, oldest first (R15; log 12). -/
  busLog : List BusEvent
  /-- the model's own: the agents' steps still to come, next first (log 6). -/
  inputs : List Input
  /-- the model's own: the environment's answer presented to the engine's step (log 7). -/
  port : EnvAnswer
  /-- the model's own: how many `any32` draws have been taken (R12; log 9). -/
  draws : Nat
deriving DecidableEq, Repr

/-- STATUS.BUSY: ESTATE is not IDLE (R24). -/
def State.busy (s : State) : Bool := s.estate != .idle

/-- No answer from the environment: the reset value of the model's own `port` (log 7). -/
def EnvAnswer.absent : EnvAnswer :=
  { completes := false, ready := false, ok := false, reply := Vector.replicate 13 0#32 }

/-- The reset values of all state (R46) for a block instance with the constants `cfg`. -/
def State.resetWith (cfg : Config) : State where
  cfg := cfg
  result := .none
  crcOk := false
  rxKind := .other
  xferFail := false
  cmdRejected := false
  werr := false
  crcAcc := cfg.crcInit
  pk := 0#32
  version := versionSentinel
  outerBudget := outerBudgetReset
  innerBudget := innerBudgetReset
  readyCost := cfg.pReadyCost
  minFw := cfg.pMinFw
  outerRemain := 0#32
  innerCount := 0#32
  attempt := 0#32
  opcode := 0#32
  param := Vector.replicate 11 0#32
  tx := Vector.replicate 13 0#32
  rx := Vector.replicate 13 0#32
  pset := Vector.replicate 10 0#16
  estate := .idle
  eop := .none
  hsRes := .ok
  trace := []
  busLog := []
  inputs := []
  port := EnvAnswer.absent
  draws := 0

/-- The machine right after reset (R46, R270): the OPEN reset values are those of `Config.chip` (R6; log 1). -/
def State.reset : State := State.resetWith Config.chip

end Sys2Proof.Machine
end

