-- ==== Sys2Proof/Machine/Operands.lean ====
section
/-! DEFINITION. How the block's operands are assembled (30_encoding.md R86, R89; 41_parameter_packing.md R140, R145;
20_memory.md R64, R65). -/

namespace Sys2Proof.Machine

open Sys2Proof

/-- `pack16(h, l) = h ++ l` (R140). -/
def pack16 (h l : Sub16) : Word := h ++ l

/-- `hi16(w) = w[31:16]` (R140). -/
def hi16 (w : Word) : Sub16 := w.extractLsb' 16 16

/-- `lo16(w) = w[15:0]` (R140). -/
def lo16 (w : Word) : Sub16 := w.extractLsb' 0 16

/-- `zext_32` of a 16-bit value (R10, R89). -/
def zext32 (v : Sub16) : Word := v.setWidth 32

/-- The half `h` of a word (R86). -/
def getHalf (h : Half) (w : Word) : Sub16 :=
  match h with
  | .hi => hi16 w
  | .lo => lo16 w

/-- `w` with its half `h` replaced by `v`, the other half kept (R142, R143). -/
def setHalf (h : Half) (v : Sub16) (w : Word) : Word :=
  match h with
  | .hi => pack16 v (lo16 w)
  | .lo => pack16 (hi16 w) v

/-- The firmware version of a reply: the half `VERSION_FIELD` of `RX[1]` (R89, R212). -/
def versionOf (cfg : Config) (rx : Frame) : Sub16 := getHalf cfg.versionField rx[1]

/-- The words 0 to `N_P+1` of `f`, all that a frame has (R11, R82): the places past them hold 0 (log 4). -/
def trimFrame (cfg : Config) (f : Frame) : Frame := Vector.ofFn fun j => if j.val < cfg.frameWords then f[j] else 0#32

/-- `sat_sub(a, b)`: `a - b` if `a >= b`, else 0 (R10, R17). -/
def satSub (a b : Word) : Word := if b ≤ a then a - b else 0#32

/-- The backoff before attempt `a`, in ms (R89, R215). -/
def backoffDuration (a : Word) : Word := backoffMs * a

/-- PARAM with the half that PSET_LAYOUT gives `PSET[k]` replaced by it (R145, R146). -/
def packEntry (cfg : Config) (pset : Vector Sub16 10) (param : Params) (k : Fin 10) : Params :=
  param.set (cfg.psetLayout[k]).1 (setHalf (cfg.psetLayout[k]).2 pset[k] param[(cfg.psetLayout[k]).1])

/-- PACK_PSET on data: every `PSET[k]` into its half of its PARAM word, every other half kept (R146; log 17). -/
def packPset (cfg : Config) (pset : Vector Sub16 10) (param : Params) : Params :=
  (List.finRange 10).foldl (packEntry cfg pset) param

/-- UNPACK_PSET on data: every `PSET[k]` from its half of its PARAM word (R147). -/
def unpackPset (cfg : Config) (param : Params) : Vector Sub16 10 :=
  cfg.psetLayout.map fun e => getHalf e.2 param[e.1]

/-- Byte `b` of a word in a byte order: bits `8b+7:8b` little-endian, bits `31-8b:24-8b` big-endian (R64, R65). -/
def wordByte (order : ByteOrder) (w : Word) (b : Fin 4) : Byte :=
  match order with
  | .little => w.extractLsb' (8 * b.val) 8
  | .big => w.extractLsb' (24 - 8 * b.val) 8

/-- The `4 * FRAME_WORDS` bytes of a frame on the link, in the order of WIRE_BYTE_ORDER (R65); the Transport Port does this, not the
block (log 20). -/
def linkBytes (cfg : Config) (f : Frame) : List Byte :=
  (f.toList.take cfg.frameWords).flatMap fun w => (List.finRange 4).map (wordByte cfg.wireByteOrder w)

/-- The word of four link bytes (R65). -/
def wordOfBytes (order : ByteOrder) (b0 b1 b2 b3 : Byte) : Word :=
  match order with
  | .little => b3 ++ b2 ++ b1 ++ b0
  | .big => b0 ++ b1 ++ b2 ++ b3

end Sys2Proof.Machine
end

