-- ==== Sys2Proof/Machine/Crc.lean ====
section
/-! DEFINITION. The CRC function, the frame encoder and the frame check (40_frame_codec.md R110 to R117). -/

namespace Sys2Proof.Machine

open Sys2Proof

/-- One of the 32 shifts of `crc_word` (R110). -/
def crcShift (poly c : Word) : Word := if c.msb then (c <<< 1) ^^^ poly else c <<< 1

/-- `n` shifts of `crc_word` (R110). -/
def crcShifts (poly : Word) : Nat → Word → Word
  | 0, c => c
  | n + 1, c => crcShifts poly n (crcShift poly c)

/-- `crc_word(c, w)` (R110). -/
def crcWord (poly c w : Word) : Word := crcShifts poly 32 (c ^^^ w)

/-- `crc_frame` of a sequence of at least `N_P+1` words: reset, then feed exactly words 0 to `N_P` (R113). -/
def crcWords (cfg : Config) (ws : List Word) : Word := (ws.take cfg.crcWordCount).foldl (crcWord cfg.crcPoly) cfg.crcInit

/-- `crc_frame(f)` (R113). -/
def crcFrame (cfg : Config) (f : Frame) : Word := crcWords cfg f.toList

/-- `encode(O, P)` (R115): the opcode, the `N_P` parameter words and their checksum. -/
def encodeFrame (cfg : Config) (o : Word) (p : Params) : Frame :=
  (trimFrame cfg #v[o, p[0], p[1], p[2], p[3], p[4], p[5], p[6], p[7], p[8], p[9], p[10], 0#32]).set cfg.crcIndex
    (crcWords cfg (o :: p.toList))

/-- `verify(f)` (R117): the recomputed checksum is word `N_P+1`. -/
def verifyFrame (cfg : Config) (f : Frame) : Bool := crcFrame cfg f == f[cfg.crcIndex]

/-- The parameter words of a probe with no payload: `P[i] = 0` (R115). -/
def zeroParams : Params := Vector.replicate 11 0#32

end Sys2Proof.Machine
end

