-- ==== Sys2Proof/Machine/Flags.lean ====
section
/-! DEFINITION. The STATUS register: its codes, its value, and every rule that writes its fields (10_state.md R23 to R27,
R47; 40_frame_codec.md R119; 45_control.md R231, R233, R236). -/

namespace Sys2Proof.Machine

open Sys2Proof

/-- The codes of RESULT (R25). -/
def ResultCode.code : ResultCode → BitVec 4
  | .none => 0
  | .ok => 1
  | .timeout => 2
  | .protocol => 3
  | .identified => 4
  | .notDetected => 5
  | .configured => 6
  | .configIncomplete => 7

/-- The codes of RX_KIND (R26). -/
def RxKind.code : RxKind → BitVec 2
  | .other => 0
  | .listening => 1
  | .blListening => 2
  | .echo => 3

/-- The codes of ESTATE (R40). -/
def EState.code : EState → BitVec 4
  | .idle => 0
  | .hsOuterCheck => 1
  | .hsOuterSleep => 2
  | .hsOuterPoll => 3
  | .hsOuterXfer => 4
  | .hsInnerCheck => 5
  | .hsInnerSettle => 6
  | .hsInnerSleep => 7
  | .hsInnerPoll => 8
  | .hsInnerXfer => 9
  | .sqStart => 10
  | .sqReset => 11
  | .sqBackoff => 12
  | .sqEval => 13

/-- The RESULT code of a handshake outcome (R195): codes 1, 2 and 3. -/
def HsResult.toResult : HsResult → ResultCode
  | .ok => .ok
  | .timeout => .timeout
  | .protocol => .protocol

/-- The value a read of STATUS returns (R23, R24): reserved bits 31:15 read 0. -/
def statusWord (s : State) : Word :=
  0#17 ++ BitVec.ofBool s.werr ++ BitVec.ofBool s.cmdRejected ++ BitVec.ofBool s.xferFail ++ s.rxKind.code ++
    BitVec.ofBool s.crcOk ++ s.result.code ++ s.estate.code ++ BitVec.ofBool s.busy

/-- `reject()`: CMD_REJECTED is set, nothing else changes (R233). -/
def reject (s : State) : State := { s with cmdRejected := true }

/-- A dropped host write sets WERR (R54, R236). -/
def dropWrite (s : State) : State := { s with werr := true }

/-- CLEAR_STATUS: every writable STATUS field to its reset value (R231). -/
def clearStatusFields (s : State) : State :=
  { s with result := .none, crcOk := false, rxKind := .other, xferFail := false, cmdRejected := false, werr := false }

/-- RX_KIND of a received frame against the reference opcode, in the priority of R119. -/
def rxKindOf (cfg : Config) (rx : Frame) (ref : Word) : RxKind :=
  if rx[0] = cfg.opcListening then .listening
  else if rx[0] = cfg.opcBlListening then .blListening
  else if rx[0] = ref then .echo
  else .other

/-- `rx_check(ref, ok)` (R119). -/
def rxCheck (ref : Word) (ok : Bool) (s : State) : State :=
  if ok then { s with xferFail := false, crcOk := verifyFrame s.cfg s.rx, rxKind := rxKindOf s.cfg s.rx ref }
  else { s with xferFail := true, crcOk := false, rxKind := .other }

end Sys2Proof.Machine
end

