-- ==== Sys2Proof/Machine/Ops.lean ====
section
/-! DEFINITION. The named operations over the block's registers: the register window (10_state.md R21, 45_control.md R234
to R236), BusError (60_exceptions.md R250), block reset (70_reset_and_hazards.md R270), and the port transactions
(42_transport_port.md). -/

namespace Sys2Proof.Machine

open Sys2Proof

/-- The 63 registers of the host window (R21): `param i` is PARAM[i+1], `tx j`, `rx j` and `pset k` as numbered. -/
inductive Reg where
  | ctrl
  | status
  | crcCtrl
  | crcData
  | pk
  | pkHi
  | pkLo
  | version
  | outerBudget
  | innerBudget
  | readyCost
  | minFw
  | outerRemain
  | innerCount
  | attempt
  | opcode
  | param (i : Fin 11)
  | tx (j : Fin 13)
  | rx (j : Fin 13)
  | pset (k : Fin 10)
deriving DecidableEq, Repr

/-- The byte offset of a register in the window (R21). -/
def Reg.offset : Reg → Nat
  | .ctrl => 0x000
  | .status => 0x004
  | .crcCtrl => 0x008
  | .crcData => 0x00C
  | .pk => 0x010
  | .pkHi => 0x014
  | .pkLo => 0x018
  | .version => 0x01C
  | .outerBudget => 0x020
  | .innerBudget => 0x024
  | .readyCost => 0x028
  | .minFw => 0x02C
  | .outerRemain => 0x030
  | .innerCount => 0x034
  | .attempt => 0x038
  | .opcode => 0x040
  | .param i => 0x044 + 4 * i.val
  | .tx j => 0x080 + 4 * j.val
  | .rx j => 0x0C0 + 4 * j.val
  | .pset k => 0x100 + 4 * k.val

/-- The registers a block instance has (R21): PARAM[1..N_P], TX[0..N_P+1], RX[0..N_P+1], and every other register. -/
def Reg.present (cfg : Config) : Reg → Bool
  | .param i => decide (i.val < cfg.nP.val)
  | .tx j | .rx j => decide (j.val < cfg.frameWords)
  | .ctrl | .status | .crcCtrl | .crcData | .pk | .pkHi | .pkLo | .version | .outerBudget | .innerBudget | .readyCost
  | .minFw | .outerRemain | .innerCount | .attempt | .opcode | .pset _ => true

/-- `value(off)`: what a read of a register returns, reserved bits 0 (R234; R22, R24, R28, R30, R35, R43). -/
def regValue (s : State) : Reg → Word
  | .ctrl => 0#32
  | .status => statusWord s
  | .crcCtrl => 0#32
  | .crcData => s.crcAcc
  | .pk => s.pk
  | .pkHi => zext32 (hi16 s.pk)
  | .pkLo => zext32 (lo16 s.pk)
  | .version => zext32 s.version
  | .outerBudget => s.outerBudget
  | .innerBudget => s.innerBudget
  | .readyCost => s.readyCost
  | .minFw => zext32 s.minFw
  | .outerRemain => s.outerRemain
  | .innerCount => s.innerCount
  | .attempt => s.attempt
  | .opcode => s.opcode
  | .param i => s.param[i]
  | .tx j => s.tx[j]
  | .rx j => s.rx[j]
  | .pset k => zext32 s.pset[k]

/-- `reg <- v` for the plain storage registers of R235, MIN_FW and PSET[k] keeping bits 15:0; no other register is
plain storage. -/
def storeReg (r : Reg) (v : Word) (s : State) : State :=
  match r with
  | .outerBudget => { s with outerBudget := v }
  | .innerBudget => { s with innerBudget := v }
  | .readyCost => { s with readyCost := v }
  | .minFw => { s with minFw := lo16 v }
  | .opcode => { s with opcode := v }
  | .param i => { s with param := s.param.set i v }
  | .rx j => { s with rx := s.rx.set j v }
  | .pset k => { s with pset := s.pset.set k (lo16 v) }
  | .ctrl | .status | .crcCtrl | .crcData | .pk | .pkHi | .pkLo | .version | .outerRemain | .innerCount | .attempt
  | .tx _ => s

/-- The host bus sees an access complete (R15; log 12). -/
def logBus (e : BusEvent) (s : State) : State := { s with busLog := s.busLog ++ [e] }

/-- `raise BusError(off)` (R250): the access completes with an error response; no register of the block changes, not
even WERR, and the engine is not affected (log 10). This is the block's only exception-like event; it has no entry, no
saved state and no return (R252). -/
def raiseBusError (off : Nat) (s : State) : State := logBus (.error off) s

/-- An access to a register: `body` where the block instance has it, and BusError where its offset lies past the last
PARAM, TX or RX word and so is reserved (R21, R63; log 4). -/
def accessReg (r : Reg) (body : State → State) (s : State) : State :=
  if r.present s.cfg then body s else raiseBusError r.offset s

/-- REG_READ (R234): the value is returned, nothing else happens (R67). -/
def hostRead (r : Reg) (s : State) : State := accessReg r (fun s => logBus (.read r.offset (regValue s r)) s) s

/-- REG_WRITE of a gated register (R235): dropped with WERR while busy (R54), else stored. -/
def gatedWrite (r : Reg) (v : Word) (s : State) : State :=
  accessReg r (fun s => logBus (.written r.offset v) (if s.busy then dropWrite s else storeReg r v s)) s

/-- A write to a read-only register: dropped with WERR, busy or not (R236). -/
def readOnlyWrite (r : Reg) (v : Word) (s : State) : State :=
  accessReg r (fun s => logBus (.written r.offset v) (dropWrite s)) s

/-- A write of a command code to CTRL (R232): rejected while busy (R233), else `body`, the command's pseudocode. -/
def issueCommand (c : Command) (body : State → State) (s : State) : State :=
  logBus (.written Reg.ctrl.offset c.code) (if s.busy then reject s else body s)

/-- Block reset (R270, R271): every register and internal state to its value of R46; no transaction is issued and the
trace is not extended. The observation, the constants and what the agents outside will still do are not the block's
registers (log 19). -/
def blockReset (s : State) : State :=
  { State.resetWith s.cfg with
    trace := s.trace, busLog := s.busLog, inputs := s.inputs, port := s.port, draws := s.draws }

/-- `PK <- v` for the three names of PK (R141 to R143). -/
def storePk (v : Word) (s : State) : State := { s with pk := v }

/-- `state <- S` (R12). -/
def goto (e : EState) (s : State) : State := { s with estate := e }

/-- A transaction enters the trace (R160). -/
def emit (e : PortEvent) (s : State) : State := { s with trace := s.trace ++ [e] }

/-- One port transaction: request and answer are one atomic event in the step (R161); while the environment does not
complete it the engine stays in the state that issued it (R169; log 8). -/
def transact (e : PortEvent) (k : State → State) (s : State) : State :=
  if s.port.completes then k (emit e s) else s

/-- `Sleep(n)`, then `k` (R162): no register changes because of it. -/
def sleepThen (ms : Word) (k : State → State) (s : State) : State := transact (.sleep ms) k s

/-- `b <- Ready()`, then `k b` (R163). -/
def readyThen (k : Bool → State → State) (s : State) : State := transact (.ready s.port.ready) (k s.port.ready) s

/-- `ResetDev()`, then `k` (R167): no register changes because of it. -/
def resetDevThen (k : State → State) (s : State) : State := transact .resetDev k s

/-- The `any32` draws of a failed transfer, one for each word of a frame, number `n` onward (R166; log 9). -/
def drawFrame (cfg : Config) (n : Nat) : Frame := trimFrame cfg (Vector.ofFn fun j => Config.any32 (n + j.val))

/-- The frame the environment's answer carries: `FRAME_WORDS` words (R165). -/
def replyFrame (s : State) : Frame := trimFrame s.cfg s.port.reply

/-- What `Exchange` leaves in RX: the reply on success, fresh draws on failure (R166). -/
def receive (s : State) : State :=
  if s.port.ok then { s with rx := replyFrame s }
  else { s with rx := drawFrame s.cfg s.draws, draws := s.draws + s.cfg.frameWords }

/-- `(ok, g) <- Exchange(TX)`, RX per R166, then `rx_check(TX[0], ok)` (R165, R166), then `k`. -/
def exchangeThen (k : State → State) (s : State) : State :=
  transact (.exchange s.tx (if s.port.ok then some (replyFrame s) else none))
    (fun t => k (rxCheck t.tx[0] t.port.ok (receive t))) s

/-- The probe `encode(O, P)` into TX (R14, R180, R210, R216). -/
def loadProbe (o : Word) (p : Params) (s : State) : State := { s with tx := encodeFrame s.cfg o p }

/-- The start of a long command: `EOP <- op ; ATTEMPT <- 0 ; RESULT <- NONE` (R180, R210, R216). -/
def beginLong (op : EOp) (s : State) : State := { s with eop := op, attempt := 0#32, result := .none }

/-- The end of a long command: `RESULT <- r ; EOP <- NONE ; ESTATE <- IDLE` (R195, R212, R213). -/
def endLong (r : ResultCode) (s : State) : State := { s with result := r, eop := .none, estate := .idle }

/-- `hs_begin()` (R197). -/
def hsBegin (s : State) : State :=
  { s with outerRemain := s.outerBudget, innerCount := 0#32, estate := .hsOuterCheck }

/-- `hs_finish(res)` (R195). -/
def hsFinish (res : HsResult) (s : State) : State :=
  match s.eop with
  | .handshake => endLong res.toResult s
  | .identify | .configure | .none => { s with hsRes := res, estate := .sqEval }

end Sys2Proof.Machine
end

