-- ==== Sys2Proof/Machine/Codec.lean ====
section
/-! DEFINITION. The commands ENCODE and VERIFY (40_frame_codec.md R116, R118). -/

namespace Sys2Proof.Machine

open Sys2Proof

/-- `ENCODE` (R116). -/
def execEncode (s : State) : Host.Outcome State Fault Refusal :=
  .next (issueCommand .encode (fun s => { loadProbe s.opcode s.param s with result := .ok }) s)

/-- `VERIFY` (R118). -/
def execVerify (s : State) : Host.Outcome State Fault Refusal :=
  .next (issueCommand .verify (fun s => { rxCheck s.opcode true s with result := .ok }) s)

end Sys2Proof.Machine
end

