-- ==== Sys2Proof/Machine/CrcUnit.lean ====
section
/-! DEFINITION. The host CRC accumulator: CRC_CTRL and CRC_DATA (40_frame_codec.md section 2). -/

namespace Sys2Proof.Machine

open Sys2Proof

/-- `CRC_RESET` (R111, R28): `DATA[0] = 1` resets CRC_ACC, `DATA[31:1]` is ignored; accepted while busy (R54). -/
def execCrcReset (data : Word) (s : State) : Host.Outcome State Fault Refusal :=
  .next (logBus (.written Reg.crcCtrl.offset data)
    (if data.extractLsb' 0 1 = 1#1 then { s with crcAcc := s.cfg.crcInit } else s))

/-- `RD_CRC_CTRL` returns 0 (R234, R28). -/
def execRdCrcCtrl (s : State) : Host.Outcome State Fault Refusal := .next (hostRead .crcCtrl s)

/-- `CRC_FEED` (R112): `CRC_ACC <- crc_word(CRC_ACC, w)`; accepted while busy (R54). -/
def execCrcFeed (data : Word) (s : State) : Host.Outcome State Fault Refusal :=
  .next (logBus (.written Reg.crcData.offset data) { s with crcAcc := crcWord s.cfg.crcPoly s.crcAcc data })

/-- `CRC_READ` (R120). -/
def execCrcRead (s : State) : Host.Outcome State Fault Refusal := .next (hostRead .crcData s)

end Sys2Proof.Machine
end

