-- ==== Sys2Proof/Machine/Handshake.lean ====
section
/-! DEFINITION. The HANDSHAKE command and the Handshake Engine's microstates (43_handshake.md). -/

namespace Sys2Proof.Machine

open Sys2Proof

/-- `HANDSHAKE`, the step of the CTRL write (R180). -/
def execHandshake (s : State) : Host.Outcome State Fault Refusal :=
  .next (issueCommand .handshake (fun s => hsBegin (beginLong .handshake (loadProbe s.opcode s.param s))) s)

/-- HS_OUTER_CHECK (R182). -/
def outerCheck (s : State) : State := if s.outerRemain = 0#32 then hsFinish .timeout s else goto .hsOuterSleep s

/-- HS_OUTER_SLEEP (R183). -/
def outerSleep (s : State) : State :=
  sleepThen pollMs (fun s => goto .hsOuterPoll { s with outerRemain := s.outerRemain - 1#32 }) s

/-- HS_OUTER_POLL (R184 when not ready, R185 when ready). -/
def outerPoll (s : State) : State :=
  readyThen (fun b s =>
    if b then goto .hsOuterXfer { s with outerRemain := satSub s.outerRemain s.readyCost } else goto .hsOuterCheck s) s

/-- A verified reply whose opcode is one of the two listening acknowledgements (R186). -/
def listeningAck (s : State) : Bool :=
  s.port.ok && verifyFrame s.cfg s.rx && (s.rx[0] == s.cfg.opcListening || s.rx[0] == s.cfg.opcBlListening)

/-- HS_OUTER_XFER (R186, R187). -/
def outerXfer (s : State) : State :=
  exchangeThen (fun s =>
    if listeningAck s then goto .hsInnerCheck { s with innerCount := 0#32 } else goto .hsOuterCheck s) s

/-- HS_INNER_CHECK (R188). -/
def innerCheck (s : State) : State :=
  if s.innerBudget ≤ s.innerCount then hsFinish .protocol s
  else goto .hsInnerSettle { s with innerCount := s.innerCount + 1#32 }

/-- HS_INNER_SETTLE for a probe with opcode `op` (R189): the settle delay of the two administrative opcodes, no
transaction for any other. -/
def innerSettle (op : Word) (s : State) : State :=
  if op = s.cfg.opcBlEraseAll then sleepThen eraseSettleMs (goto .hsInnerSleep) s
  else if op = s.cfg.opcBlWriteFirmware then sleepThen writeSettleMs (goto .hsInnerSleep) s
  else goto .hsInnerSleep s

/-- HS_INNER_SLEEP (R190). -/
def innerSleep (s : State) : State := sleepThen pollMs (goto .hsInnerPoll) s

/-- HS_INNER_POLL (R191). -/
def innerPoll (s : State) : State :=
  readyThen (fun b s => if b then goto .hsInnerXfer s else goto .hsInnerCheck s) s

/-- A verified reply that carries the probe's opcode (R192). -/
def echoed (s : State) : Bool := s.port.ok && verifyFrame s.cfg s.rx && s.rx[0] == s.tx[0]

/-- HS_INNER_XFER (R192). -/
def innerXfer (s : State) : State :=
  exchangeThen (fun s => if echoed s then hsFinish .ok s else goto .hsInnerCheck s) s

end Sys2Proof.Machine
end

