-- ==== Sys2Proof/Machine/Packing.lean ====
section
/-! DEFINITION. The PK unit and the ParameterSet commands (41_parameter_packing.md). -/

namespace Sys2Proof.Machine

open Sys2Proof

/-- `PK_WRITE` (R141). -/
def execPkWrite (data : Word) (s : State) : Host.Outcome State Fault Refusal :=
  .next (logBus (.written Reg.pk.offset data) (storePk data s))

/-- `PK_READ` (R144). -/
def execPkRead (s : State) : Host.Outcome State Fault Refusal := .next (hostRead .pk s)

/-- `PK_HI_WRITE` (R142): the low half is kept, `v[31:16]` ignored. -/
def execPkHiWrite (data : Word) (s : State) : Host.Outcome State Fault Refusal :=
  .next (logBus (.written Reg.pkHi.offset data) (storePk (setHalf .hi (lo16 data) s.pk) s))

/-- `PK_HI_READ` (R142). -/
def execPkHiRead (s : State) : Host.Outcome State Fault Refusal := .next (hostRead .pkHi s)

/-- `PK_LO_WRITE` (R143): the high half is kept, `v[31:16]` ignored. -/
def execPkLoWrite (data : Word) (s : State) : Host.Outcome State Fault Refusal :=
  .next (logBus (.written Reg.pkLo.offset data) (storePk (setHalf .lo (lo16 data) s.pk) s))

/-- `PK_LO_READ` (R143). -/
def execPkLoRead (s : State) : Host.Outcome State Fault Refusal := .next (hostRead .pkLo s)

/-- `PACK_PSET` (R146). -/
def execPackPset (s : State) : Host.Outcome State Fault Refusal :=
  .next (issueCommand .packPset (fun s => { s with param := packPset s.cfg s.pset s.param, result := .ok }) s)

/-- `UNPACK_PSET` (R147). -/
def execUnpackPset (s : State) : Host.Outcome State Fault Refusal :=
  .next (issueCommand .unpackPset (fun s => { s with pset := unpackPset s.cfg s.param, result := .ok }) s)

end Sys2Proof.Machine
end

