-- ==== Sys2Proof/Machine/Sequencer.lean ====
section
/-! DEFINITION. The commands IDENTIFY and CONFIGURE and the sequencer's microstates (44_attempt_sequencer.md). -/

namespace Sys2Proof.Machine

open Sys2Proof

/-- `IDENTIFY`, the step of the CTRL write (R210). -/
def execIdentify (s : State) : Host.Outcome State Fault Refusal :=
  .next (issueCommand .identify
    (fun s => goto .sqStart (beginLong .identify (loadProbe s.cfg.opcReportInfo zeroParams s))) s)

/-- `CONFIGURE`, the step of the CTRL write (R216). -/
def execConfigure (s : State) : Host.Outcome State Fault Refusal :=
  .next (issueCommand .configure
    (fun s => goto .sqStart (beginLong .configure (loadProbe s.cfg.opcSetup s.param s))) s)

/-- SQ_START (R211). -/
def sqStart (s : State) : State :=
  if s.eop = .configure ∧ 1#32 ≤ s.attempt then goto .sqReset s else hsBegin s

/-- SQ_RESET (R214). -/
def sqReset (s : State) : State := resetDevThen (goto .sqBackoff) s

/-- SQ_BACKOFF (R215). -/
def sqBackoff (s : State) : State := sleepThen (backoffDuration s.attempt) hsBegin s

/-- The next attempt: `ATTEMPT <- ATTEMPT + 1 ; ESTATE <- SQ_START` (R212, R213). -/
def nextAttempt (s : State) : State := goto .sqStart { s with attempt := s.attempt + 1#32 }

/-- SQ_EVAL when EOP is IDENTIFY (R212). -/
def evalIdentify (s : State) : State :=
  if s.hsRes = .ok then
    if s.minFw ≤ versionOf s.cfg s.rx then endLong .identified { s with version := versionOf s.cfg s.rx }
    else endLong .notDetected { s with version := versionSentinel }
  else if idAttempts ≤ s.attempt + 1#32 then endLong .notDetected { s with version := versionSentinel }
  else nextAttempt s

/-- SQ_EVAL when EOP is CONFIGURE (R213). -/
def evalConfigure (s : State) : State :=
  if s.hsRes = .ok then endLong .configured s
  else if cfgAttempts ≤ s.attempt + 1#32 then endLong .configIncomplete s
  else nextAttempt s

/-- SQ_EVAL (R212, R213). With EOP NONE or HANDSHAKE, which no run reaches (R45), no rule gives a step (log 18). -/
def sqEval (s : State) : State :=
  match s.eop with
  | .identify => evalIdentify s
  | .configure => evalConfigure s
  | .handshake | .none => s

end Sys2Proof.Machine
end

