-- ==== Sys2Proof/Machine/Control.lean ====
section
/-! DEFINITION. CTRL: the dispatch of a command, NOP, CLEAR_STATUS and rejection (45_control.md R230 to R233). -/

namespace Sys2Proof.Machine

open Sys2Proof

/-- `NOP` (R230): nothing; RESULT is not changed (log 13). -/
def execNop (s : State) : Host.Outcome State Fault Refusal := .next (issueCommand .nop (fun s => s) s)

/-- `CLEAR_STATUS` (R231). -/
def execClearStatus (s : State) : Host.Outcome State Fault Refusal :=
  .next (issueCommand .clearStatus clearStatusFields s)

/-- `WR_CTRL` (R232): the command of the CMD value; a reserved encoding is rejected (R233). The busy test of R232 stands
in each command. -/
def execWrCtrl (data : Word) (s : State) : Host.Outcome State Fault Refusal :=
  match decodeCommand data with
  | some .nop => execNop s
  | some .encode => execEncode s
  | some .verify => execVerify s
  | some .handshake => execHandshake s
  | some .identify => execIdentify s
  | some .configure => execConfigure s
  | some .packPset => execPackPset s
  | some .unpackPset => execUnpackPset s
  | some .clearStatus => execClearStatus s
  | none => .next (logBus (.written Reg.ctrl.offset data) (reject s))

/-- `RD_CTRL` returns 0 (R234, R22). -/
def execRdCtrl (s : State) : Host.Outcome State Fault Refusal := .next (hostRead .ctrl s)

end Sys2Proof.Machine
end

