-- ==== Sys2Proof/Machine/Registers.lean ====
section
/-! DEFINITION. Plain register reads and writes, one meaning per row of the opcode table (45_control.md R234 to R236). -/

namespace Sys2Proof.Machine

open Sys2Proof

/-- `RD_STATUS` (R234). -/
def execRdStatus (s : State) : Host.Outcome State Fault Refusal := .next (hostRead .status s)

/-- `WR_STATUS`: read-only, dropped with WERR (R236). -/
def execWrStatus (data : Word) (s : State) : Host.Outcome State Fault Refusal := .next (readOnlyWrite .status data s)

/-- `RD_VERSION` (R234). -/
def execRdVersion (s : State) : Host.Outcome State Fault Refusal := .next (hostRead .version s)

/-- `WR_VERSION`: read-only, dropped with WERR (R236). -/
def execWrVersion (data : Word) (s : State) : Host.Outcome State Fault Refusal := .next (readOnlyWrite .version data s)

/-- `RD_OUTER_BUDGET` (R234). -/
def execRdOuterBudget (s : State) : Host.Outcome State Fault Refusal := .next (hostRead .outerBudget s)

/-- `WR_OUTER_BUDGET`: gated (R235, R54). -/
def execWrOuterBudget (data : Word) (s : State) : Host.Outcome State Fault Refusal := .next (gatedWrite .outerBudget data s)

/-- `RD_INNER_BUDGET` (R234). -/
def execRdInnerBudget (s : State) : Host.Outcome State Fault Refusal := .next (hostRead .innerBudget s)

/-- `WR_INNER_BUDGET`: gated (R235, R54). -/
def execWrInnerBudget (data : Word) (s : State) : Host.Outcome State Fault Refusal := .next (gatedWrite .innerBudget data s)

/-- `RD_READY_COST` (R234). -/
def execRdReadyCost (s : State) : Host.Outcome State Fault Refusal := .next (hostRead .readyCost s)

/-- `WR_READY_COST`: gated (R235, R54). -/
def execWrReadyCost (data : Word) (s : State) : Host.Outcome State Fault Refusal := .next (gatedWrite .readyCost data s)

/-- `RD_MIN_FW` (R234). -/
def execRdMinFw (s : State) : Host.Outcome State Fault Refusal := .next (hostRead .minFw s)

/-- `WR_MIN_FW`: gated (R235, R54). -/
def execWrMinFw (data : Word) (s : State) : Host.Outcome State Fault Refusal := .next (gatedWrite .minFw data s)

/-- `RD_OUTER_REMAIN` (R234). -/
def execRdOuterRemain (s : State) : Host.Outcome State Fault Refusal := .next (hostRead .outerRemain s)

/-- `WR_OUTER_REMAIN`: read-only, dropped with WERR (R236). -/
def execWrOuterRemain (data : Word) (s : State) : Host.Outcome State Fault Refusal := .next (readOnlyWrite .outerRemain data s)

/-- `RD_INNER_COUNT` (R234). -/
def execRdInnerCount (s : State) : Host.Outcome State Fault Refusal := .next (hostRead .innerCount s)

/-- `WR_INNER_COUNT`: read-only, dropped with WERR (R236). -/
def execWrInnerCount (data : Word) (s : State) : Host.Outcome State Fault Refusal := .next (readOnlyWrite .innerCount data s)

/-- `RD_ATTEMPT` (R234). -/
def execRdAttempt (s : State) : Host.Outcome State Fault Refusal := .next (hostRead .attempt s)

/-- `WR_ATTEMPT`: read-only, dropped with WERR (R236). -/
def execWrAttempt (data : Word) (s : State) : Host.Outcome State Fault Refusal := .next (readOnlyWrite .attempt data s)

/-- `RD_OPCODE` (R234). -/
def execRdOpcode (s : State) : Host.Outcome State Fault Refusal := .next (hostRead .opcode s)

/-- `WR_OPCODE`: gated (R235, R54). -/
def execWrOpcode (data : Word) (s : State) : Host.Outcome State Fault Refusal := .next (gatedWrite .opcode data s)

/-- `RD_PARAM[1]` (R234). -/
def execRdParam1 (s : State) : Host.Outcome State Fault Refusal := .next (hostRead (.param 0) s)

/-- `WR_PARAM[1]`: gated (R235, R54). -/
def execWrParam1 (data : Word) (s : State) : Host.Outcome State Fault Refusal := .next (gatedWrite (.param 0) data s)

/-- `RD_PARAM[2]` (R234). -/
def execRdParam2 (s : State) : Host.Outcome State Fault Refusal := .next (hostRead (.param 1) s)

/-- `WR_PARAM[2]`: gated (R235, R54). -/
def execWrParam2 (data : Word) (s : State) : Host.Outcome State Fault Refusal := .next (gatedWrite (.param 1) data s)

/-- `RD_PARAM[3]` (R234). -/
def execRdParam3 (s : State) : Host.Outcome State Fault Refusal := .next (hostRead (.param 2) s)

/-- `WR_PARAM[3]`: gated (R235, R54). -/
def execWrParam3 (data : Word) (s : State) : Host.Outcome State Fault Refusal := .next (gatedWrite (.param 2) data s)

/-- `RD_PARAM[4]` (R234). -/
def execRdParam4 (s : State) : Host.Outcome State Fault Refusal := .next (hostRead (.param 3) s)

/-- `WR_PARAM[4]`: gated (R235, R54). -/
def execWrParam4 (data : Word) (s : State) : Host.Outcome State Fault Refusal := .next (gatedWrite (.param 3) data s)

/-- `RD_PARAM[5]` (R234). -/
def execRdParam5 (s : State) : Host.Outcome State Fault Refusal := .next (hostRead (.param 4) s)

/-- `WR_PARAM[5]`: gated (R235, R54). -/
def execWrParam5 (data : Word) (s : State) : Host.Outcome State Fault Refusal := .next (gatedWrite (.param 4) data s)

/-- `RD_PARAM[6]` (R234). -/
def execRdParam6 (s : State) : Host.Outcome State Fault Refusal := .next (hostRead (.param 5) s)

/-- `WR_PARAM[6]`: gated (R235, R54). -/
def execWrParam6 (data : Word) (s : State) : Host.Outcome State Fault Refusal := .next (gatedWrite (.param 5) data s)

/-- `RD_PARAM[7]` (R234). -/
def execRdParam7 (s : State) : Host.Outcome State Fault Refusal := .next (hostRead (.param 6) s)

/-- `WR_PARAM[7]`: gated (R235, R54). -/
def execWrParam7 (data : Word) (s : State) : Host.Outcome State Fault Refusal := .next (gatedWrite (.param 6) data s)

/-- `RD_PARAM[8]` (R234). -/
def execRdParam8 (s : State) : Host.Outcome State Fault Refusal := .next (hostRead (.param 7) s)

/-- `WR_PARAM[8]`: gated (R235, R54). -/
def execWrParam8 (data : Word) (s : State) : Host.Outcome State Fault Refusal := .next (gatedWrite (.param 7) data s)

/-- `RD_PARAM[9]` (R234). -/
def execRdParam9 (s : State) : Host.Outcome State Fault Refusal := .next (hostRead (.param 8) s)

/-- `WR_PARAM[9]`: gated (R235, R54). -/
def execWrParam9 (data : Word) (s : State) : Host.Outcome State Fault Refusal := .next (gatedWrite (.param 8) data s)

/-- `RD_PARAM[10]` (R234). -/
def execRdParam10 (s : State) : Host.Outcome State Fault Refusal := .next (hostRead (.param 9) s)

/-- `WR_PARAM[10]`: gated (R235, R54). -/
def execWrParam10 (data : Word) (s : State) : Host.Outcome State Fault Refusal := .next (gatedWrite (.param 9) data s)

/-- `RD_PARAM[11]` (R234). -/
def execRdParam11 (s : State) : Host.Outcome State Fault Refusal := .next (hostRead (.param 10) s)

/-- `WR_PARAM[11]`: gated (R235, R54). -/
def execWrParam11 (data : Word) (s : State) : Host.Outcome State Fault Refusal := .next (gatedWrite (.param 10) data s)

/-- `RD_TX[0]` (R234). -/
def execRdTx0 (s : State) : Host.Outcome State Fault Refusal := .next (hostRead (.tx 0) s)

/-- `WR_TX[0]`: read-only, dropped with WERR (R236). -/
def execWrTx0 (data : Word) (s : State) : Host.Outcome State Fault Refusal := .next (readOnlyWrite (.tx 0) data s)

/-- `RD_TX[1]` (R234). -/
def execRdTx1 (s : State) : Host.Outcome State Fault Refusal := .next (hostRead (.tx 1) s)

/-- `WR_TX[1]`: read-only, dropped with WERR (R236). -/
def execWrTx1 (data : Word) (s : State) : Host.Outcome State Fault Refusal := .next (readOnlyWrite (.tx 1) data s)

/-- `RD_TX[2]` (R234). -/
def execRdTx2 (s : State) : Host.Outcome State Fault Refusal := .next (hostRead (.tx 2) s)

/-- `WR_TX[2]`: read-only, dropped with WERR (R236). -/
def execWrTx2 (data : Word) (s : State) : Host.Outcome State Fault Refusal := .next (readOnlyWrite (.tx 2) data s)

/-- `RD_TX[3]` (R234). -/
def execRdTx3 (s : State) : Host.Outcome State Fault Refusal := .next (hostRead (.tx 3) s)

/-- `WR_TX[3]`: read-only, dropped with WERR (R236). -/
def execWrTx3 (data : Word) (s : State) : Host.Outcome State Fault Refusal := .next (readOnlyWrite (.tx 3) data s)

/-- `RD_TX[4]` (R234). -/
def execRdTx4 (s : State) : Host.Outcome State Fault Refusal := .next (hostRead (.tx 4) s)

/-- `WR_TX[4]`: read-only, dropped with WERR (R236). -/
def execWrTx4 (data : Word) (s : State) : Host.Outcome State Fault Refusal := .next (readOnlyWrite (.tx 4) data s)

/-- `RD_TX[5]` (R234). -/
def execRdTx5 (s : State) : Host.Outcome State Fault Refusal := .next (hostRead (.tx 5) s)

/-- `WR_TX[5]`: read-only, dropped with WERR (R236). -/
def execWrTx5 (data : Word) (s : State) : Host.Outcome State Fault Refusal := .next (readOnlyWrite (.tx 5) data s)

/-- `RD_TX[6]` (R234). -/
def execRdTx6 (s : State) : Host.Outcome State Fault Refusal := .next (hostRead (.tx 6) s)

/-- `WR_TX[6]`: read-only, dropped with WERR (R236). -/
def execWrTx6 (data : Word) (s : State) : Host.Outcome State Fault Refusal := .next (readOnlyWrite (.tx 6) data s)

/-- `RD_TX[7]` (R234). -/
def execRdTx7 (s : State) : Host.Outcome State Fault Refusal := .next (hostRead (.tx 7) s)

/-- `WR_TX[7]`: read-only, dropped with WERR (R236). -/
def execWrTx7 (data : Word) (s : State) : Host.Outcome State Fault Refusal := .next (readOnlyWrite (.tx 7) data s)

/-- `RD_TX[8]` (R234). -/
def execRdTx8 (s : State) : Host.Outcome State Fault Refusal := .next (hostRead (.tx 8) s)

/-- `WR_TX[8]`: read-only, dropped with WERR (R236). -/
def execWrTx8 (data : Word) (s : State) : Host.Outcome State Fault Refusal := .next (readOnlyWrite (.tx 8) data s)

/-- `RD_TX[9]` (R234). -/
def execRdTx9 (s : State) : Host.Outcome State Fault Refusal := .next (hostRead (.tx 9) s)

/-- `WR_TX[9]`: read-only, dropped with WERR (R236). -/
def execWrTx9 (data : Word) (s : State) : Host.Outcome State Fault Refusal := .next (readOnlyWrite (.tx 9) data s)

/-- `RD_TX[10]` (R234). -/
def execRdTx10 (s : State) : Host.Outcome State Fault Refusal := .next (hostRead (.tx 10) s)

/-- `WR_TX[10]`: read-only, dropped with WERR (R236). -/
def execWrTx10 (data : Word) (s : State) : Host.Outcome State Fault Refusal := .next (readOnlyWrite (.tx 10) data s)

/-- `RD_TX[11]` (R234). -/
def execRdTx11 (s : State) : Host.Outcome State Fault Refusal := .next (hostRead (.tx 11) s)

/-- `WR_TX[11]`: read-only, dropped with WERR (R236). -/
def execWrTx11 (data : Word) (s : State) : Host.Outcome State Fault Refusal := .next (readOnlyWrite (.tx 11) data s)

/-- `RD_TX[12]` (R234). -/
def execRdTx12 (s : State) : Host.Outcome State Fault Refusal := .next (hostRead (.tx 12) s)

/-- `WR_TX[12]`: read-only, dropped with WERR (R236). -/
def execWrTx12 (data : Word) (s : State) : Host.Outcome State Fault Refusal := .next (readOnlyWrite (.tx 12) data s)

/-- `RD_RX[0]` (R234). -/
def execRdRx0 (s : State) : Host.Outcome State Fault Refusal := .next (hostRead (.rx 0) s)

/-- `WR_RX[0]`: gated (R235, R54). -/
def execWrRx0 (data : Word) (s : State) : Host.Outcome State Fault Refusal := .next (gatedWrite (.rx 0) data s)

/-- `RD_RX[1]` (R234). -/
def execRdRx1 (s : State) : Host.Outcome State Fault Refusal := .next (hostRead (.rx 1) s)

/-- `WR_RX[1]`: gated (R235, R54). -/
def execWrRx1 (data : Word) (s : State) : Host.Outcome State Fault Refusal := .next (gatedWrite (.rx 1) data s)

/-- `RD_RX[2]` (R234). -/
def execRdRx2 (s : State) : Host.Outcome State Fault Refusal := .next (hostRead (.rx 2) s)

/-- `WR_RX[2]`: gated (R235, R54). -/
def execWrRx2 (data : Word) (s : State) : Host.Outcome State Fault Refusal := .next (gatedWrite (.rx 2) data s)

/-- `RD_RX[3]` (R234). -/
def execRdRx3 (s : State) : Host.Outcome State Fault Refusal := .next (hostRead (.rx 3) s)

/-- `WR_RX[3]`: gated (R235, R54). -/
def execWrRx3 (data : Word) (s : State) : Host.Outcome State Fault Refusal := .next (gatedWrite (.rx 3) data s)

/-- `RD_RX[4]` (R234). -/
def execRdRx4 (s : State) : Host.Outcome State Fault Refusal := .next (hostRead (.rx 4) s)

/-- `WR_RX[4]`: gated (R235, R54). -/
def execWrRx4 (data : Word) (s : State) : Host.Outcome State Fault Refusal := .next (gatedWrite (.rx 4) data s)

/-- `RD_RX[5]` (R234). -/
def execRdRx5 (s : State) : Host.Outcome State Fault Refusal := .next (hostRead (.rx 5) s)

/-- `WR_RX[5]`: gated (R235, R54). -/
def execWrRx5 (data : Word) (s : State) : Host.Outcome State Fault Refusal := .next (gatedWrite (.rx 5) data s)

/-- `RD_RX[6]` (R234). -/
def execRdRx6 (s : State) : Host.Outcome State Fault Refusal := .next (hostRead (.rx 6) s)

/-- `WR_RX[6]`: gated (R235, R54). -/
def execWrRx6 (data : Word) (s : State) : Host.Outcome State Fault Refusal := .next (gatedWrite (.rx 6) data s)

/-- `RD_RX[7]` (R234). -/
def execRdRx7 (s : State) : Host.Outcome State Fault Refusal := .next (hostRead (.rx 7) s)

/-- `WR_RX[7]`: gated (R235, R54). -/
def execWrRx7 (data : Word) (s : State) : Host.Outcome State Fault Refusal := .next (gatedWrite (.rx 7) data s)

/-- `RD_RX[8]` (R234). -/
def execRdRx8 (s : State) : Host.Outcome State Fault Refusal := .next (hostRead (.rx 8) s)

/-- `WR_RX[8]`: gated (R235, R54). -/
def execWrRx8 (data : Word) (s : State) : Host.Outcome State Fault Refusal := .next (gatedWrite (.rx 8) data s)

/-- `RD_RX[9]` (R234). -/
def execRdRx9 (s : State) : Host.Outcome State Fault Refusal := .next (hostRead (.rx 9) s)

/-- `WR_RX[9]`: gated (R235, R54). -/
def execWrRx9 (data : Word) (s : State) : Host.Outcome State Fault Refusal := .next (gatedWrite (.rx 9) data s)

/-- `RD_RX[10]` (R234). -/
def execRdRx10 (s : State) : Host.Outcome State Fault Refusal := .next (hostRead (.rx 10) s)

/-- `WR_RX[10]`: gated (R235, R54). -/
def execWrRx10 (data : Word) (s : State) : Host.Outcome State Fault Refusal := .next (gatedWrite (.rx 10) data s)

/-- `RD_RX[11]` (R234). -/
def execRdRx11 (s : State) : Host.Outcome State Fault Refusal := .next (hostRead (.rx 11) s)

/-- `WR_RX[11]`: gated (R235, R54). -/
def execWrRx11 (data : Word) (s : State) : Host.Outcome State Fault Refusal := .next (gatedWrite (.rx 11) data s)

/-- `RD_RX[12]` (R234). -/
def execRdRx12 (s : State) : Host.Outcome State Fault Refusal := .next (hostRead (.rx 12) s)

/-- `WR_RX[12]`: gated (R235, R54). -/
def execWrRx12 (data : Word) (s : State) : Host.Outcome State Fault Refusal := .next (gatedWrite (.rx 12) data s)

/-- `RD_PSET[0]` (R234). -/
def execRdPset0 (s : State) : Host.Outcome State Fault Refusal := .next (hostRead (.pset 0) s)

/-- `WR_PSET[0]`: gated (R235, R54). -/
def execWrPset0 (data : Word) (s : State) : Host.Outcome State Fault Refusal := .next (gatedWrite (.pset 0) data s)

/-- `RD_PSET[1]` (R234). -/
def execRdPset1 (s : State) : Host.Outcome State Fault Refusal := .next (hostRead (.pset 1) s)

/-- `WR_PSET[1]`: gated (R235, R54). -/
def execWrPset1 (data : Word) (s : State) : Host.Outcome State Fault Refusal := .next (gatedWrite (.pset 1) data s)

/-- `RD_PSET[2]` (R234). -/
def execRdPset2 (s : State) : Host.Outcome State Fault Refusal := .next (hostRead (.pset 2) s)

/-- `WR_PSET[2]`: gated (R235, R54). -/
def execWrPset2 (data : Word) (s : State) : Host.Outcome State Fault Refusal := .next (gatedWrite (.pset 2) data s)

/-- `RD_PSET[3]` (R234). -/
def execRdPset3 (s : State) : Host.Outcome State Fault Refusal := .next (hostRead (.pset 3) s)

/-- `WR_PSET[3]`: gated (R235, R54). -/
def execWrPset3 (data : Word) (s : State) : Host.Outcome State Fault Refusal := .next (gatedWrite (.pset 3) data s)

/-- `RD_PSET[4]` (R234). -/
def execRdPset4 (s : State) : Host.Outcome State Fault Refusal := .next (hostRead (.pset 4) s)

/-- `WR_PSET[4]`: gated (R235, R54). -/
def execWrPset4 (data : Word) (s : State) : Host.Outcome State Fault Refusal := .next (gatedWrite (.pset 4) data s)

/-- `RD_PSET[5]` (R234). -/
def execRdPset5 (s : State) : Host.Outcome State Fault Refusal := .next (hostRead (.pset 5) s)

/-- `WR_PSET[5]`: gated (R235, R54). -/
def execWrPset5 (data : Word) (s : State) : Host.Outcome State Fault Refusal := .next (gatedWrite (.pset 5) data s)

/-- `RD_PSET[6]` (R234). -/
def execRdPset6 (s : State) : Host.Outcome State Fault Refusal := .next (hostRead (.pset 6) s)

/-- `WR_PSET[6]`: gated (R235, R54). -/
def execWrPset6 (data : Word) (s : State) : Host.Outcome State Fault Refusal := .next (gatedWrite (.pset 6) data s)

/-- `RD_PSET[7]` (R234). -/
def execRdPset7 (s : State) : Host.Outcome State Fault Refusal := .next (hostRead (.pset 7) s)

/-- `WR_PSET[7]`: gated (R235, R54). -/
def execWrPset7 (data : Word) (s : State) : Host.Outcome State Fault Refusal := .next (gatedWrite (.pset 7) data s)

/-- `RD_PSET[8]` (R234). -/
def execRdPset8 (s : State) : Host.Outcome State Fault Refusal := .next (hostRead (.pset 8) s)

/-- `WR_PSET[8]`: gated (R235, R54). -/
def execWrPset8 (data : Word) (s : State) : Host.Outcome State Fault Refusal := .next (gatedWrite (.pset 8) data s)

/-- `RD_PSET[9]` (R234). -/
def execRdPset9 (s : State) : Host.Outcome State Fault Refusal := .next (hostRead (.pset 9) s)

/-- `WR_PSET[9]`: gated (R235, R54). -/
def execWrPset9 (data : Word) (s : State) : Host.Outcome State Fault Refusal := .next (gatedWrite (.pset 9) data s)

end Sys2Proof.Machine
end

