-- ==== Sys2Proof/Machine/Wire.lean ====
section
/-! DEFINITION. The engine's microstep, and the WIRE rows: what the engine does with a FRAME word 0 that carries one of the
opcodes the spec names (30_encoding.md R87; log 15). -/

namespace Sys2Proof.Machine

open Sys2Proof

/-- One engine step (R9, R161): the rule of the microstate (R40); in IDLE the engine has no step (R181). -/
def engineStep (s : State) : State :=
  match s.estate with
  | .idle => s
  | .hsOuterCheck => outerCheck s
  | .hsOuterSleep => outerSleep s
  | .hsOuterPoll => outerPoll s
  | .hsOuterXfer => outerXfer s
  | .hsInnerCheck => innerCheck s
  | .hsInnerSettle => innerSettle s.tx[0] s
  | .hsInnerSleep => innerSleep s
  | .hsInnerPoll => innerPoll s
  | .hsInnerXfer => innerXfer s
  | .sqStart => sqStart s
  | .sqReset => sqReset s
  | .sqBackoff => sqBackoff s
  | .sqEval => sqEval s

/-- The FRAME word 0 the engine's next step handles: the probe's opcode in HS_INNER_SETTLE (R189), the reply's opcode
when a transfer succeeds (R186, R192); no other step looks at a wire opcode. -/
def wireWord (s : State) : Option Word :=
  match s.estate with
  | .hsInnerSettle => some s.tx[0]
  | .hsOuterXfer | .hsInnerXfer => if s.port.completes && s.port.ok then some s.port.reply[0] else none
  | .idle | .hsOuterCheck | .hsOuterSleep | .hsOuterPoll | .hsInnerCheck | .hsInnerSleep | .hsInnerPoll | .sqStart
  | .sqReset | .sqBackoff | .sqEval => none

/-- The environment's reply with its opcode word `op`, the other words as the environment gave them. -/
def withReplyOpcode (op : Word) (s : State) : State := { s with port := { s.port with reply := s.port.reply.set 0 op } }

/-- The engine handles a FRAME word 0 equal to `op` in its present microstate: as the probe's opcode in HS_INNER_SETTLE
(R189), as the reply's opcode in HS_OUTER_XFER (R186) and HS_INNER_XFER (R192). In every other microstate no rule reads
a wire opcode, and it has no effect. -/
def meetOpcode (op : Word) (s : State) : State :=
  match s.estate with
  | .hsInnerSettle => innerSettle op s
  | .hsOuterXfer => outerXfer (withReplyOpcode op s)
  | .hsInnerXfer => innerXfer (withReplyOpcode op s)
  | .idle | .hsOuterCheck | .hsOuterSleep | .hsOuterPoll | .hsInnerCheck | .hsInnerSleep | .hsInnerPoll | .sqStart
  | .sqReset | .sqBackoff | .sqEval => s

/-- `OPC_NONE` (R193): built by no rule and tested by no rule, so an opcode like any unnamed one (R88). -/
def execOpcNone (s : State) : Host.Outcome State Fault Refusal := .next (meetOpcode s.cfg.opcNone s)

/-- `OPC_REPORT_INFO` (R210): while idle, the probe of IDENTIFY into TX; on the link, an echo when it is the probe's
opcode (R192). -/
def execOpcReportInfo (s : State) : Host.Outcome State Fault Refusal :=
  .next (if s.busy then meetOpcode s.cfg.opcReportInfo s else loadProbe s.cfg.opcReportInfo zeroParams s)

/-- `OPC_SETUP` (R216): while idle, the probe of CONFIGURE into TX; on the link, an echo when it is the probe's opcode
(R192). -/
def execOpcSetup (s : State) : Host.Outcome State Fault Refusal :=
  .next (if s.busy then meetOpcode s.cfg.opcSetup s else loadProbe s.cfg.opcSetup s.param s)

/-- `OPC_LISTENING` (R186): the normal-mode listening acknowledgement. -/
def execOpcListening (s : State) : Host.Outcome State Fault Refusal := .next (meetOpcode s.cfg.opcListening s)

/-- `OPC_BL_LISTENING` (R186): the bootloader-mode listening acknowledgement. -/
def execOpcBlListening (s : State) : Host.Outcome State Fault Refusal := .next (meetOpcode s.cfg.opcBlListening s)

/-- `OPC_BL_ERASE_ALL` (R189): the 600 ms settle of each inner attempt. -/
def execOpcBlEraseAll (s : State) : Host.Outcome State Fault Refusal := .next (meetOpcode s.cfg.opcBlEraseAll s)

/-- `OPC_BL_WRITE_FIRMWARE` (R189): the 10 ms settle of each inner attempt. -/
def execOpcBlWriteFirmware (s : State) : Host.Outcome State Fault Refusal :=
  .next (meetOpcode s.cfg.opcBlWriteFirmware s)

end Sys2Proof.Machine
end

