-- ==== Sys2Proof/Machine/Dispatch.lean ====
section
/-! DEFINITION. The meaning of each instruction, one arm per constructor of `Instr`. -/

namespace Sys2Proof.Machine

def exec (i : Instr) (s : State) : Host.Outcome State Fault Refusal :=
  match i with
  | .nop => Sys2Proof.Machine.execNop s
  | .encode => Sys2Proof.Machine.execEncode s
  | .verify => Sys2Proof.Machine.execVerify s
  | .handshake => Sys2Proof.Machine.execHandshake s
  | .identify => Sys2Proof.Machine.execIdentify s
  | .configure => Sys2Proof.Machine.execConfigure s
  | .packPset => Sys2Proof.Machine.execPackPset s
  | .unpackPset => Sys2Proof.Machine.execUnpackPset s
  | .clearStatus => Sys2Proof.Machine.execClearStatus s
  | .wrCtrl data => Sys2Proof.Machine.execWrCtrl data s
  | .rdCtrl => Sys2Proof.Machine.execRdCtrl s
  | .rdStatus => Sys2Proof.Machine.execRdStatus s
  | .wrStatus data => Sys2Proof.Machine.execWrStatus data s
  | .crcReset data => Sys2Proof.Machine.execCrcReset data s
  | .rdCrcCtrl => Sys2Proof.Machine.execRdCrcCtrl s
  | .crcFeed data => Sys2Proof.Machine.execCrcFeed data s
  | .crcRead => Sys2Proof.Machine.execCrcRead s
  | .pkWrite data => Sys2Proof.Machine.execPkWrite data s
  | .pkRead => Sys2Proof.Machine.execPkRead s
  | .pkHiWrite data => Sys2Proof.Machine.execPkHiWrite data s
  | .pkHiRead => Sys2Proof.Machine.execPkHiRead s
  | .pkLoWrite data => Sys2Proof.Machine.execPkLoWrite data s
  | .pkLoRead => Sys2Proof.Machine.execPkLoRead s
  | .rdVersion => Sys2Proof.Machine.execRdVersion s
  | .wrVersion data => Sys2Proof.Machine.execWrVersion data s
  | .rdOuterBudget => Sys2Proof.Machine.execRdOuterBudget s
  | .wrOuterBudget data => Sys2Proof.Machine.execWrOuterBudget data s
  | .rdInnerBudget => Sys2Proof.Machine.execRdInnerBudget s
  | .wrInnerBudget data => Sys2Proof.Machine.execWrInnerBudget data s
  | .rdReadyCost => Sys2Proof.Machine.execRdReadyCost s
  | .wrReadyCost data => Sys2Proof.Machine.execWrReadyCost data s
  | .rdMinFw => Sys2Proof.Machine.execRdMinFw s
  | .wrMinFw data => Sys2Proof.Machine.execWrMinFw data s
  | .rdOuterRemain => Sys2Proof.Machine.execRdOuterRemain s
  | .wrOuterRemain data => Sys2Proof.Machine.execWrOuterRemain data s
  | .rdInnerCount => Sys2Proof.Machine.execRdInnerCount s
  | .wrInnerCount data => Sys2Proof.Machine.execWrInnerCount data s
  | .rdAttempt => Sys2Proof.Machine.execRdAttempt s
  | .wrAttempt data => Sys2Proof.Machine.execWrAttempt data s
  | .rdOpcode => Sys2Proof.Machine.execRdOpcode s
  | .wrOpcode data => Sys2Proof.Machine.execWrOpcode data s
  | .rdParam1 => Sys2Proof.Machine.execRdParam1 s
  | .wrParam1 data => Sys2Proof.Machine.execWrParam1 data s
  | .rdParam2 => Sys2Proof.Machine.execRdParam2 s
  | .wrParam2 data => Sys2Proof.Machine.execWrParam2 data s
  | .rdParam3 => Sys2Proof.Machine.execRdParam3 s
  | .wrParam3 data => Sys2Proof.Machine.execWrParam3 data s
  | .rdParam4 => Sys2Proof.Machine.execRdParam4 s
  | .wrParam4 data => Sys2Proof.Machine.execWrParam4 data s
  | .rdParam5 => Sys2Proof.Machine.execRdParam5 s
  | .wrParam5 data => Sys2Proof.Machine.execWrParam5 data s
  | .rdParam6 => Sys2Proof.Machine.execRdParam6 s
  | .wrParam6 data => Sys2Proof.Machine.execWrParam6 data s
  | .rdParam7 => Sys2Proof.Machine.execRdParam7 s
  | .wrParam7 data => Sys2Proof.Machine.execWrParam7 data s
  | .rdParam8 => Sys2Proof.Machine.execRdParam8 s
  | .wrParam8 data => Sys2Proof.Machine.execWrParam8 data s
  | .rdParam9 => Sys2Proof.Machine.execRdParam9 s
  | .wrParam9 data => Sys2Proof.Machine.execWrParam9 data s
  | .rdParam10 => Sys2Proof.Machine.execRdParam10 s
  | .wrParam10 data => Sys2Proof.Machine.execWrParam10 data s
  | .rdParam11 => Sys2Proof.Machine.execRdParam11 s
  | .wrParam11 data => Sys2Proof.Machine.execWrParam11 data s
  | .rdTx0 => Sys2Proof.Machine.execRdTx0 s
  | .wrTx0 data => Sys2Proof.Machine.execWrTx0 data s
  | .rdTx1 => Sys2Proof.Machine.execRdTx1 s
  | .wrTx1 data => Sys2Proof.Machine.execWrTx1 data s
  | .rdTx2 => Sys2Proof.Machine.execRdTx2 s
  | .wrTx2 data => Sys2Proof.Machine.execWrTx2 data s
  | .rdTx3 => Sys2Proof.Machine.execRdTx3 s
  | .wrTx3 data => Sys2Proof.Machine.execWrTx3 data s
  | .rdTx4 => Sys2Proof.Machine.execRdTx4 s
  | .wrTx4 data => Sys2Proof.Machine.execWrTx4 data s
  | .rdTx5 => Sys2Proof.Machine.execRdTx5 s
  | .wrTx5 data => Sys2Proof.Machine.execWrTx5 data s
  | .rdTx6 => Sys2Proof.Machine.execRdTx6 s
  | .wrTx6 data => Sys2Proof.Machine.execWrTx6 data s
  | .rdTx7 => Sys2Proof.Machine.execRdTx7 s
  | .wrTx7 data => Sys2Proof.Machine.execWrTx7 data s
  | .rdTx8 => Sys2Proof.Machine.execRdTx8 s
  | .wrTx8 data => Sys2Proof.Machine.execWrTx8 data s
  | .rdTx9 => Sys2Proof.Machine.execRdTx9 s
  | .wrTx9 data => Sys2Proof.Machine.execWrTx9 data s
  | .rdTx10 => Sys2Proof.Machine.execRdTx10 s
  | .wrTx10 data => Sys2Proof.Machine.execWrTx10 data s
  | .rdTx11 => Sys2Proof.Machine.execRdTx11 s
  | .wrTx11 data => Sys2Proof.Machine.execWrTx11 data s
  | .rdTx12 => Sys2Proof.Machine.execRdTx12 s
  | .wrTx12 data => Sys2Proof.Machine.execWrTx12 data s
  | .rdRx0 => Sys2Proof.Machine.execRdRx0 s
  | .wrRx0 data => Sys2Proof.Machine.execWrRx0 data s
  | .rdRx1 => Sys2Proof.Machine.execRdRx1 s
  | .wrRx1 data => Sys2Proof.Machine.execWrRx1 data s
  | .rdRx2 => Sys2Proof.Machine.execRdRx2 s
  | .wrRx2 data => Sys2Proof.Machine.execWrRx2 data s
  | .rdRx3 => Sys2Proof.Machine.execRdRx3 s
  | .wrRx3 data => Sys2Proof.Machine.execWrRx3 data s
  | .rdRx4 => Sys2Proof.Machine.execRdRx4 s
  | .wrRx4 data => Sys2Proof.Machine.execWrRx4 data s
  | .rdRx5 => Sys2Proof.Machine.execRdRx5 s
  | .wrRx5 data => Sys2Proof.Machine.execWrRx5 data s
  | .rdRx6 => Sys2Proof.Machine.execRdRx6 s
  | .wrRx6 data => Sys2Proof.Machine.execWrRx6 data s
  | .rdRx7 => Sys2Proof.Machine.execRdRx7 s
  | .wrRx7 data => Sys2Proof.Machine.execWrRx7 data s
  | .rdRx8 => Sys2Proof.Machine.execRdRx8 s
  | .wrRx8 data => Sys2Proof.Machine.execWrRx8 data s
  | .rdRx9 => Sys2Proof.Machine.execRdRx9 s
  | .wrRx9 data => Sys2Proof.Machine.execWrRx9 data s
  | .rdRx10 => Sys2Proof.Machine.execRdRx10 s
  | .wrRx10 data => Sys2Proof.Machine.execWrRx10 data s
  | .rdRx11 => Sys2Proof.Machine.execRdRx11 s
  | .wrRx11 data => Sys2Proof.Machine.execWrRx11 data s
  | .rdRx12 => Sys2Proof.Machine.execRdRx12 s
  | .wrRx12 data => Sys2Proof.Machine.execWrRx12 data s
  | .rdPset0 => Sys2Proof.Machine.execRdPset0 s
  | .wrPset0 data => Sys2Proof.Machine.execWrPset0 data s
  | .rdPset1 => Sys2Proof.Machine.execRdPset1 s
  | .wrPset1 data => Sys2Proof.Machine.execWrPset1 data s
  | .rdPset2 => Sys2Proof.Machine.execRdPset2 s
  | .wrPset2 data => Sys2Proof.Machine.execWrPset2 data s
  | .rdPset3 => Sys2Proof.Machine.execRdPset3 s
  | .wrPset3 data => Sys2Proof.Machine.execWrPset3 data s
  | .rdPset4 => Sys2Proof.Machine.execRdPset4 s
  | .wrPset4 data => Sys2Proof.Machine.execWrPset4 data s
  | .rdPset5 => Sys2Proof.Machine.execRdPset5 s
  | .wrPset5 data => Sys2Proof.Machine.execWrPset5 data s
  | .rdPset6 => Sys2Proof.Machine.execRdPset6 s
  | .wrPset6 data => Sys2Proof.Machine.execWrPset6 data s
  | .rdPset7 => Sys2Proof.Machine.execRdPset7 s
  | .wrPset7 data => Sys2Proof.Machine.execWrPset7 data s
  | .rdPset8 => Sys2Proof.Machine.execRdPset8 s
  | .wrPset8 data => Sys2Proof.Machine.execWrPset8 data s
  | .rdPset9 => Sys2Proof.Machine.execRdPset9 s
  | .wrPset9 data => Sys2Proof.Machine.execWrPset9 data s
  | .opcNone => Sys2Proof.Machine.execOpcNone s
  | .opcReportInfo => Sys2Proof.Machine.execOpcReportInfo s
  | .opcSetup => Sys2Proof.Machine.execOpcSetup s
  | .opcListening => Sys2Proof.Machine.execOpcListening s
  | .opcBlListening => Sys2Proof.Machine.execOpcBlListening s
  | .opcBlEraseAll => Sys2Proof.Machine.execOpcBlEraseAll s
  | .opcBlWriteFirmware => Sys2Proof.Machine.execOpcBlWriteFirmware s

end Sys2Proof.Machine
end

