-- ==== Sys2Proof/Machine/Fetch.lean ====
section
/-! DEFINITION. Whose step is next, and which instruction it runs (00_scope.md R9; 20_memory.md R70; 30_encoding.md R94). -/

namespace Sys2Proof.Machine

open Sys2Proof

/-- What the next step is: an instruction to run at a state, a step that is no instruction, or an access the block does
not decode. -/
inductive Fetched where
  | instr (i : Instr) (s : State)
  | done (s : State)
  | outside (off : Nat)
deriving DecidableEq, Repr

/-- The host's access: its row (R94), BusError (R250, R253), or outside the window (R63). -/
def fetchHost (a : Access) (s : State) : Fetched :=
  match decodeBus s.cfg a with
  | .instr i => .instr i s
  | .busError _ => .done (raiseBusError a.off s)
  | .outside => .outside a.off

/-- The engine's step at a state whose `port` holds the environment's answer: a named FRAME word 0 is a WIRE row (R87),
any other step is the rule of the microstate. -/
def fetchEngine (s : State) : Fetched :=
  match (wireWord s).bind (decodeWire s.cfg) with
  | some i => .instr i s
  | none => .done (engineStep s)

/-- The next entry of the interleaving (R70), taken off `inputs`. -/
def fetch (s : State) : Fetched :=
  match s.inputs with
  | [] => .done s
  | .host a :: rest => fetchHost a { s with inputs := rest }
  | .engine ans :: rest => fetchEngine { s with inputs := rest, port := ans }
  | .blockReset :: rest => .done (blockReset { s with inputs := rest })

/-- `i` is the next entry of the interleaving. -/
def schedule (i : Input) (s : State) : State := { s with inputs := i :: s.inputs }

/-- A table word of `nbits` bits as the host's next access: a 32-bit word is written to CTRL (R83), a longer one is an
ACCESS word (R81). -/
def scheduleWord (nbits w : Nat) (s : State) : State :=
  if nbits ≤ 32 then schedule (.host (Access.wr 0x000 (BitVec.ofNat 32 w))) s
  else schedule (.host (Access.ofWord (BitVec.ofNat 42 w))) s

end Sys2Proof.Machine
end

