-- ==== Sys2Proof/Machine/Step.lean ====
section
/-! DEFINITION. One step of the interleaving of host, engine and environment (20_memory.md R70), and where the host's
words are put. -/

namespace Sys2Proof.Machine

open Sys2Proof

/-- The agent whose turn it is takes one step (R9, R70); with nothing scheduled nothing happens (log 6). A host access
runs the instruction its word decodes to (R94) or ends in BusError (R250). An engine step that handles a FRAME word 0
runs the WIRE row it decodes to, and any other engine step is its microstate's rule. -/
def step (s : State) : Host.Outcome State Fault Refusal :=
  match fetch s with
  | .instr i t => exec i t
  | .done t => .next t
  | .outside off => .fault (.outsideWindow off)

/-- `s` with the table word `w` of `nbits` bits as the next step: a CMD value as the write of it to CTRL, an ACCESS word
as that access (log 16). Nothing else changes. -/
def State.withFetchWord (s : State) (nbits w : Nat) : State := scheduleWord nbits w s

end Sys2Proof.Machine
end

