-- ==== Sys2Proof/WellFormed.lean ====
section
/-! DEFINITION. Which instructions, accesses and configurations the spec calls well formed. An ill-formed access or
command is still defined behaviour: BusError (R250) or rejection (R233). -/

namespace Sys2Proof

/-- A CMD value with RES = 0 and OP in 0x0 to 0x8 (R83, R85). -/
def cmdWellFormed (v : Word) : Bool := v.extractLsb' 4 28 == 0#28 && decide (v.extractLsb' 0 4 ≤ 8#4)

/-- The least `N_P` with which the register of a row exists (R21): `i` for PARAM[i], `j - 1` for TX[j] and RX[j], none for
every other row. -/
def Instr.neededParams : Instr → Nat
  | .rdParam11 | .wrParam11 _ | .rdTx12 | .wrTx12 _ | .rdRx12 | .wrRx12 _ => 11
  | .rdParam10 | .wrParam10 _ | .rdTx11 | .wrTx11 _ | .rdRx11 | .wrRx11 _ => 10
  | .rdParam9 | .wrParam9 _ | .rdTx10 | .wrTx10 _ | .rdRx10 | .wrRx10 _ => 9
  | .rdParam8 | .wrParam8 _ | .rdTx9 | .wrTx9 _ | .rdRx9 | .wrRx9 _ => 8
  | .rdParam7 | .wrParam7 _ | .rdTx8 | .wrTx8 _ | .rdRx8 | .wrRx8 _ => 7
  | .rdParam6 | .wrParam6 _ | .rdTx7 | .wrTx7 _ | .rdRx7 | .wrRx7 _ => 6
  | .rdParam5 | .wrParam5 _ | .rdTx6 | .wrTx6 _ | .rdRx6 | .wrRx6 _ => 5
  | .rdParam4 | .wrParam4 _ | .rdTx5 | .wrTx5 _ | .rdRx5 | .wrRx5 _ => 4
  | .rdParam3 | .wrParam3 _ | .rdTx4 | .wrTx4 _ | .rdRx4 | .wrRx4 _ => 3
  | .rdParam2 | .wrParam2 _ | .rdTx3 | .wrTx3 _ | .rdRx3 | .wrRx3 _ => 2
  | .rdParam1 | .wrParam1 _ | .rdTx2 | .wrTx2 _ | .rdRx2 | .wrRx2 _ => 1
  | .nop | .encode | .verify | .handshake | .identify | .configure | .packPset | .unpackPset | .clearStatus
  | .wrCtrl _ | .rdCtrl | .rdStatus | .wrStatus _ | .crcReset _ | .rdCrcCtrl | .crcFeed _ | .crcRead | .pkWrite _
  | .pkRead | .pkHiWrite _ | .pkHiRead | .pkLoWrite _ | .pkLoRead | .rdVersion | .wrVersion _ | .rdOuterBudget
  | .wrOuterBudget _ | .rdInnerBudget | .wrInnerBudget _ | .rdReadyCost | .wrReadyCost _ | .rdMinFw | .wrMinFw _
  | .rdOuterRemain | .wrOuterRemain _ | .rdInnerCount | .wrInnerCount _ | .rdAttempt | .wrAttempt _ | .rdOpcode
  | .wrOpcode _ | .rdTx0 | .wrTx0 _ | .rdTx1 | .wrTx1 _ | .rdRx0 | .wrRx0 _ | .rdRx1 | .wrRx1 _ | .rdPset0
  | .wrPset0 _ | .rdPset1 | .wrPset1 _ | .rdPset2 | .wrPset2 _ | .rdPset3 | .wrPset3 _ | .rdPset4 | .wrPset4 _
  | .rdPset5 | .wrPset5 _ | .rdPset6 | .wrPset6 _ | .rdPset7 | .wrPset7 _ | .rdPset8 | .wrPset8 _ | .rdPset9
  | .wrPset9 _ | .opcNone | .opcReportInfo | .opcSetup | .opcListening | .opcBlListening | .opcBlEraseAll
  | .opcBlWriteFirmware => 0

/-- The block instance has the row's register (R21). -/
def Instr.present (cfg : Config) (i : Instr) : Bool := decide (i.neededParams ≤ cfg.nP.val)

/-- An instruction of a register the block instance has, and, for WR_CTRL, a DATA whose bits that must be zero are (R22,
R83); every other operand is any 32-bit value (R90). -/
def Instr.wellFormed (cfg : Config) (i : Instr) : Bool :=
  i.present cfg &&
    match i with
    | .wrCtrl data => cmdWellFormed data
    | _ => true

/-- An access ACCESS can represent and R21 lists: 32 bits wide (R61), aligned (R62), a listed offset (R63), DATA 0 for
a read (R81). -/
def Access.wellFormed (cfg : Config) (a : Access) : Bool :=
  a.width == .w32 && offsetListed cfg.nP.val a.off && (a.dir == .write || a.data == 0#32)

/-- The seven `OPC_*` values (R6). -/
def Config.opcodes (cfg : Config) : List Word :=
  [cfg.opcNone, cfg.opcReportInfo, cfg.opcSetup, cfg.opcListening, cfg.opcBlListening, cfg.opcBlEraseAll,
    cfg.opcBlWriteFirmware]

/-- The seven `OPC_*` values are pairwise distinct (R6), and PSET_LAYOUT maps the PSET entries one to one onto distinct
halves of PARAM[1..N_P] (R145). -/
abbrev Config.wf (cfg : Config) : Prop :=
  cfg.opcodes.Nodup ∧ cfg.psetLayout.toList.Nodup ∧ ∀ k : Fin 10, (cfg.psetLayout[k]).1.val < cfg.nP.val

end Sys2Proof
end

