-- ==== Sys2Proof/Safety.lean ====
section
/-! DEFINITION. The terms the statements use: one agent's step, runs of steps, the invariant of the block, what each agent
can see, and the handshake as one function (43_handshake.md R201). -/

namespace Sys2Proof.Machine

open Sys2Proof

/-- The step of the agent that `i` names, whatever is scheduled after it (R9, R70). -/
def act (i : Input) (s : State) : Host.Outcome State Fault Refusal := step (schedule i s)

/-- The steps of a list of agents, in order; it stops at the first fault or refusal. -/
def actAll : List Input → State → Host.Outcome State Fault Refusal
  | [], s => .next s
  | i :: is, s =>
    match act i s with
    | .next t => actAll is t
    | .fault r => .fault r
    | .refused r => .refused r

/-- An environment that answers by the number of transactions already in the trace (R160). -/
abbrev Oracle := Nat → EnvAnswer

/-- Every transaction completes: the environment does its duty (R168). -/
def Oracle.Completes (oracle : Oracle) : Prop := ∀ n, (oracle n).completes = true

/-- `n` engine steps in a row against an environment (R15, R170). -/
def engineRun (oracle : Oracle) : Nat → State → Host.Outcome State Fault Refusal
  | 0, s => .next s
  | n + 1, s =>
    match act (.engine (oracle s.trace.length)) s with
    | .next t => engineRun oracle n t
    | .fault r => .fault r
    | .refused r => .refused r

/-- The microstates of the Handshake Engine (R40). -/
def EState.inHandshake : EState → Bool
  | .hsOuterCheck | .hsOuterSleep | .hsOuterPoll | .hsOuterXfer | .hsInnerCheck | .hsInnerSettle | .hsInnerSleep
  | .hsInnerPoll | .hsInnerXfer => true
  | .idle | .sqStart | .sqReset | .sqBackoff | .sqEval => false

/-- The microstates of the inner confirmation loop (R188 to R192). -/
def EState.inInnerLoop : EState → Bool
  | .hsInnerCheck | .hsInnerSettle | .hsInnerSleep | .hsInnerPoll | .hsInnerXfer => true
  | .idle | .hsOuterCheck | .hsOuterSleep | .hsOuterPoll | .hsOuterXfer | .sqStart | .sqReset | .sqBackoff | .sqEval => false

/-- The microstates inside an inner attempt, after its check (R189 to R192). -/
def EState.inInnerAttempt : EState → Bool
  | .hsInnerSettle | .hsInnerSleep | .hsInnerPoll | .hsInnerXfer => true
  | .idle | .hsOuterCheck | .hsOuterSleep | .hsOuterPoll | .hsOuterXfer | .hsInnerCheck | .sqStart | .sqReset | .sqBackoff
  | .sqEval => false

/-- The microstates of the attempt sequencer (R211 to R215). -/
def EState.inSequencer : EState → Bool
  | .sqStart | .sqReset | .sqBackoff | .sqEval => true
  | .idle | .hsOuterCheck | .hsOuterSleep | .hsOuterPoll | .hsOuterXfer | .hsInnerCheck | .hsInnerSettle | .hsInnerSleep
  | .hsInnerPoll | .hsInnerXfer => false

/-- The microstates whose step issues a transaction whatever the probe (R183, R184, R186, R190, R191, R192, R214, R215). -/
def EState.issuesTransaction : EState → Bool
  | .hsOuterSleep | .hsOuterPoll | .hsOuterXfer | .hsInnerSleep | .hsInnerPoll | .hsInnerXfer | .sqReset | .sqBackoff => true
  | .idle | .hsOuterCheck | .hsInnerCheck | .hsInnerSettle | .sqStart | .sqEval => false

/-- The invariant of the block: what the spec says of every state a run can reach. -/
structure Inv (s : State) : Prop where
  /-- R6, R145. -/
  cfgWf : s.cfg.wf
  /-- The words of PARAM, TX and RX past those that exist hold 0 (R21, log 4): equal blocks are equal data. -/
  absentParam : ∀ i : Fin 11, s.cfg.nP.val ≤ i.val → s.param[i] = 0#32
  absentTx : ∀ j : Fin 13, s.cfg.frameWords ≤ j.val → s.tx[j] = 0#32
  absentRx : ∀ j : Fin 13, s.cfg.frameWords ≤ j.val → s.rx[j] = 0#32
  /-- `EOP != NONE` exactly when `ESTATE != IDLE` (R45). -/
  eopIdle : s.eop = .none ↔ s.estate = .idle
  /-- While busy, RESULT is NONE (R275). -/
  resultNone : s.estate ≠ .idle → s.result = .none
  /-- The sequencer runs only for IDENTIFY and CONFIGURE (R210, R216, R195). -/
  sequencerOp : s.estate.inSequencer = true → s.eop = .identify ∨ s.eop = .configure
  /-- A device reset and a backoff happen only before a CONFIGURE attempt `a >= 1` (R211). -/
  resetOp : s.estate = .sqReset ∨ s.estate = .sqBackoff → s.eop = .configure ∧ 1 ≤ s.attempt.toNat
  /-- A plain HANDSHAKE sets ATTEMPT to 0 (R38). -/
  handshakeAttempt : s.eop = .handshake → s.attempt = 0#32
  /-- At most ID_ATTEMPTS attempts (R17, R210). -/
  identifyAttempt : s.eop = .identify → s.attempt.toNat < 5
  /-- At most CFG_ATTEMPTS attempts (R17, R216). -/
  configureAttempt : s.eop = .configure → s.attempt.toNat < 10
  /-- OUTER_REMAIN only falls from OUTER_BUDGET (R196). -/
  remainBound : s.estate.inHandshake = true → s.outerRemain.toNat ≤ s.outerBudget.toNat
  /-- INNER_COUNT only rises to INNER_BUDGET (R17, R196). -/
  countBound : s.estate.inHandshake = true → s.innerCount.toNat ≤ s.innerBudget.toNat
  /-- `OUTER_REMAIN >= 1` in HS_OUTER_SLEEP (R183). -/
  sleepCredit : s.estate = .hsOuterSleep → s.outerRemain ≠ 0#32
  /-- An inner attempt has been counted (R188). -/
  attemptCounted : s.estate.inInnerAttempt = true → s.innerCount ≠ 0#32
  /-- While busy TX holds a well-formed probe (R41, R123). -/
  probeWellFormed : s.estate ≠ .idle → verifyFrame s.cfg s.tx = true
  /-- The probe of IDENTIFY (R210). -/
  identifyProbe : s.eop = .identify → s.tx[0] = s.cfg.opcReportInfo
  /-- The probe of CONFIGURE (R216). -/
  configureProbe : s.eop = .configure → s.tx[0] = s.cfg.opcSetup

/-- What the engine can see: the state without the host's own units and flags (R29, R54, R114). -/
def engineView (s : State) : State :=
  { s with crcAcc := 0#32, pk := 0#32, cmdRejected := false, werr := false, busLog := [] }

/-- The block with another value of `OPC_NONE` (R193). -/
def withOpcNone (w : Word) (s : State) : State := { s with cfg := { s.cfg with opcNone := w } }

/-- The settle transaction of an inner attempt for a probe with opcode `op` (R189). -/
def settleEvents (cfg : Config) (op : Word) : List PortEvent :=
  if op = cfg.opcBlEraseAll then [.sleep 600#32]
  else if op = cfg.opcBlWriteFirmware then [.sleep 10#32]
  else []

/-- The answer of an environment that is ready, completes every transaction and replies `g`. -/
def answerWith (g : Frame) : EnvAnswer := { completes := true, ready := true, ok := true, reply := g }

/-- The block after a successful Exchange and its check (R165, R166, R119), before the engine decides. -/
def received (ans : EnvAnswer) (s : State) : State :=
  { s with
    port := ans, trace := s.trace ++ [.exchange s.tx (some (trimFrame s.cfg ans.reply))],
    rx := trimFrame s.cfg ans.reply, xferFail := false,
    crcOk := verifyFrame s.cfg ans.reply, rxKind := rxKindOf s.cfg ans.reply s.tx[0] }

/-- The block after a failed Exchange that left `f` in RX, and its check (R166, R119), before the engine decides. -/
def lost (ans : EnvAnswer) (f : Frame) (s : State) : State :=
  { s with
    port := ans, trace := s.trace ++ [.exchange s.tx none], rx := f, draws := s.draws + s.cfg.frameWords, xferFail := true,
    crcOk := false, rxKind := .other }

/-- The trace of a handshake whose device is never ready, with `n` units of outer budget (R196). -/
def neverReadyTrace (n : Nat) : List PortEvent := (List.replicate n [.sleep 1#32, .ready false]).flatten

/-- The trace of the configure attempts `0` to `k - 1` when no handshake succeeds and the device is never ready, with
`n` units of outer budget (R214, R215, R217). -/
def exhaustedTrace (n : Nat) : Nat → List PortEvent
  | 0 => []
  | a + 1 =>
    exhaustedTrace n a ++ (if a = 0 then [] else [.resetDev, .sleep (BitVec.ofNat 32 (300 * a))]) ++ neverReadyTrace n

/-- `xfer_ok()` of R201: Exchange with the environment's answer, RX per R166, the check of R119; true when `ok`. -/
def hsXfer (oracle : Oracle) (s : State) : Bool × State :=
  let a := oracle s.trace.length
  let t := emit (.exchange s.tx (if a.ok then some (trimFrame s.cfg a.reply) else none)) s
  (a.ok, rxCheck t.tx[0] a.ok
    (if a.ok then { t with rx := trimFrame t.cfg a.reply }
      else { t with rx := drawFrame t.cfg t.draws, draws := t.draws + t.cfg.frameWords }))

/-- `Ready()` of R201. -/
def hsReady (oracle : Oracle) (s : State) : Bool × State :=
  let b := (oracle s.trace.length).ready
  (b, emit (.ready b) s)

/-- The outer loop of R201, at most `n` iterations; true is its `break`, false its `return TIMEOUT`. -/
def hsOuterLoop (oracle : Oracle) : Nat → State → Bool × State
  | 0, s => (false, s)
  | n + 1, s =>
    if s.outerRemain = 0#32 then (false, s)
    else
      let s := emit (.sleep 1#32) s
      let s := { s with outerRemain := s.outerRemain - 1#32 }
      let (b, s) := hsReady oracle s
      if b then
        let s := { s with outerRemain := satSub s.outerRemain s.readyCost }
        let (ok, s) := hsXfer oracle s
        if ok && verifyFrame s.cfg s.rx && (s.rx[0] == s.cfg.opcListening || s.rx[0] == s.cfg.opcBlListening) then (true, s)
        else hsOuterLoop oracle n s
      else hsOuterLoop oracle n s

/-- The inner loop of R201, `n` attempts left of INNER_BUDGET. -/
def hsInnerLoop (oracle : Oracle) : Nat → State → HsResult × State
  | 0, s => (.protocol, s)
  | n + 1, s =>
    let s := { s with innerCount := s.innerCount + 1#32 }
    let s := { s with trace := s.trace ++ settleEvents s.cfg s.tx[0] }
    let s := emit (.sleep 1#32) s
    let (b, s) := hsReady oracle s
    if b then
      let (ok, s) := hsXfer oracle s
      if ok && verifyFrame s.cfg s.rx && s.rx[0] == s.tx[0] then (.ok, s) else hsInnerLoop oracle n s
    else hsInnerLoop oracle n s

/-- The whole handshake as one function (R201), the probe in TX. The registers of the state are those of the block; its
ESTATE and EOP are not looked at. -/
def handshakeFunction (oracle : Oracle) (s : State) : HsResult × State :=
  let (acked, s) := hsOuterLoop oracle s.outerBudget.toNat { s with outerRemain := s.outerBudget, innerCount := 0#32 }
  if acked then hsInnerLoop oracle s.innerBudget.toNat { s with innerCount := 0#32 } else (.timeout, s)

end Sys2Proof.Machine
end

