-- ==== Sys2Proof/Certificates/Slice0/Obligations.lean ====
section
/-! DEFINITION. The statements about the model, for the provers. Each docstring names the rules of spec/ it formalises. -/

open Sys2Proof Sys2Proof.Machine

/-- Decode and encode agree on every row of the opcode table, every operand at every value (R81, R83, R84, R87, R94), for every `N_P` (R21). Ill-formed data of WR_CTRL round-trips too. -/
def Obligations.DecodeEncodeAgree : Prop :=
  ∀ cfg : Config, cfg.wf → ∀ i : Instr,
    decode cfg (encode cfg i) = if i.present cfg then some i else none

/-- No bit of a word is dropped, but for the DATA of a read (R81: 0 for a read; the model ignores it, log 14). -/
def Obligations.EncodeDecodeAgree : Prop :=
  ∀ (cfg : Config) (i : Instr),
    (∀ v, decode cfg (.cmd v) = some i → encode cfg i = .cmd v) ∧
    (∀ w, decode cfg (.access w) = some i →
      encode cfg i = .access (if accessDir w = .write then w else accessWord .read (accessOff w) 0#32)) ∧
    (∀ opc, decode cfg (.wire opc) = some i → encode cfg i = .wire opc)

/-- R21 lists the offsets of the window, by formulas in `N_P`; R94: every ACCESS word decodes to exactly one row or to BusError. -/
def Obligations.ListedOffsetsDecodeToOneRow : Prop :=
  (∀ (cfg : Config) (a : Access), a.width = .w32 → a.off % 4 = 0 → a.off < 0x200 →
    ((∃ i, decodeBus cfg a = .instr i) ↔
      (a.off ≤ 0x038 ∨ a.off = 0x040 ∨
        (∃ i : Nat, 1 ≤ i ∧ i ≤ cfg.nP.val ∧ a.off = 0x044 + 4 * (i - 1)) ∨
        (∃ j : Nat, j ≤ cfg.nP.val + 1 ∧ a.off = 0x080 + 4 * j) ∨
        (∃ j : Nat, j ≤ cfg.nP.val + 1 ∧ a.off = 0x0C0 + 4 * j) ∨ (0x100 ≤ a.off ∧ a.off ≤ 0x124)))) ∧
  (accessRows.map fun r => (r.dir, r.off)).Nodup

/-- R85: accepted when `v[31:4] = 0` and `v[3:0] <= 0x8` (the busy condition of R85 stands in CommandsRejectedWhileBusyOrReserved). -/
def Obligations.CommandValuesDecode : Prop :=
  ∀ v : Word, ((∃ c, decodeCommand v = some c) ↔ v.toNat ≤ 8) ∧ (∀ c, decodeCommand v = some c → c.code = v)

/-- Sanity: ACCESS words of 95_test_vectors.md P1, P2, P5 (R81), CMD values of R84, and, with `N_P` = 10, an offset that R21
and R63 reserve. That `decodeTableWord` reads a bare 32-bit word as a CMD value before a WIRE value is the model's choice
(log 16, DESIGN CHOICE). -/
def Obligations.WordsOfTheSpecDecode : Prop :=
  decodeAccess Config.chip 0x20800000001#42 = some (.crcReset 1#32) ∧
  decodeAccess Config.chip 0x20C0000007A#42 = some (.crcFeed 0x7A#32) ∧
  decodeAccess Config.chip 0x00C00000000#42 = some .crcRead ∧
  decodeAccess Config.chip 0x24400010002#42 = some (.wrParam1 0x00010002#32) ∧
  decodeAccess Config.chip 0x2F0BFB57CD9#42 = some (.wrRx12 0xBFB57CD9#32) ∧
  decodeAccess Config.chip 0x3240001FFFF#42 = some (.wrPset9 0x1FFFF#32) ∧
  decodeAccess Config.chip 0x28000000005#42 = some (.wrTx0 5#32) ∧
  decodeAccess Config.chip 0x03C00000000#42 = none ∧
  decodeAccess { Config.chip with nP := 10 } 0x2F0BFB57CD9#42 = none ∧
  decodeTableWord 32 3 = some .handshake ∧
  decodeTableWord 32 8 = some .clearStatus

/-- A step runs the decoded instruction. That the schedule of the agents is data is the model's form of R70 (log 6), and that a WIRE row runs in an engine step is the model's reading (log 15). -/
def Obligations.StepRunsDecodedInstruction : Prop :=
  (∀ (s : State) (a : Access) (rest : List Input) (i : Instr), s.inputs = .host a :: rest → decodeBus s.cfg a = .instr i →
    step s = exec i { s with inputs := rest }) ∧
  (∀ (s : State) (ans : EnvAnswer) (rest : List Input) (op : Word) (i : Instr), s.inputs = .engine ans :: rest →
    wireWord { s with inputs := rest, port := ans } = some op → decodeWire s.cfg op = some i →
    step s = exec i { s with inputs := rest, port := ans })

/-- R40: ESTATE names the next engine step. The dispatch on wire opcodes (log 15) changes no outcome. -/
def Obligations.EngineStepsFollowTheMicrostate : Prop :=
  ∀ (s : State) (ans : EnvAnswer), act (.engine ans) s = .next (engineStep { s with port := ans })

/-- R232: an accepted CTRL write performs the command. Rejection is CommandsRejectedWhileBusyOrReserved. -/
def Obligations.WrCtrlRunsTheCommand : Prop :=
  ∀ (s : State) (c : Command), s.estate = .idle →
    ∃ t, exec (.wrCtrl c.code) s = .next t ∧ exec c.toInstr s = .next t

/-- R16: the block is total. R63: offsets outside the window are not decoded by the block (the fault is the model's choice, log 11). -/
def Obligations.StepAlwaysAnswers : Prop :=
  ∀ s : State,
    (∃ t, step s = .next t) ∨
    (∃ a rest, s.inputs = .host a :: rest ∧ 0x200 ≤ a.off ∧ step s = .fault (.outsideWindow a.off))

/-- R234, R67, with R22, R28 to R30, R34, R35, R120, R144. Complete frame: the whole next state is given. The log of accesses is the model's (log 12). -/
def Obligations.ScalarReadsReturnRegisters : Prop :=
  ∀ s : State, ∀ p ∈ ([
      (.rdCtrl, 0x000, 0#32), (.rdCrcCtrl, 0x008, 0#32), (.crcRead, 0x00C, s.crcAcc), (.pkRead, 0x010, s.pk),
      (.pkHiRead, 0x014, s.pk >>> 16), (.pkLoRead, 0x018, s.pk &&& 0x0000FFFF#32),
      (.rdVersion, 0x01C, s.version.setWidth 32), (.rdOuterBudget, 0x020, s.outerBudget),
      (.rdInnerBudget, 0x024, s.innerBudget), (.rdReadyCost, 0x028, s.readyCost),
      (.rdMinFw, 0x02C, s.minFw.setWidth 32), (.rdOuterRemain, 0x030, s.outerRemain),
      (.rdInnerCount, 0x034, s.innerCount), (.rdAttempt, 0x038, s.attempt), (.rdOpcode, 0x040, s.opcode)] : List (Instr × Nat × Word)),
    exec p.1 s = .next { s with busLog := s.busLog ++ [.read p.2.1 p.2.2] }

/-- R234, R67, R121, with R39, R41 to R43, and R21 and R63 for the words an `N_P` below 11 leaves out. Complete frame. The log of accesses is the model's (log 12), and that a row without its register ends in BusError is log 4. -/
def Obligations.ArrayReadsReturnRegisters : Prop :=
  ∀ s : State, ∀ p ∈ ([
      (.rdParam1, 0x044, s.param[0]), (.rdParam2, 0x048, s.param[1]), (.rdParam3, 0x04C, s.param[2]),
      (.rdParam4, 0x050, s.param[3]), (.rdParam5, 0x054, s.param[4]), (.rdParam6, 0x058, s.param[5]),
      (.rdParam7, 0x05C, s.param[6]), (.rdParam8, 0x060, s.param[7]), (.rdParam9, 0x064, s.param[8]),
      (.rdParam10, 0x068, s.param[9]), (.rdParam11, 0x06C, s.param[10]), (.rdTx0, 0x080, s.tx[0]),
      (.rdTx1, 0x084, s.tx[1]), (.rdTx2, 0x088, s.tx[2]), (.rdTx3, 0x08C, s.tx[3]), (.rdTx4, 0x090, s.tx[4]),
      (.rdTx5, 0x094, s.tx[5]), (.rdTx6, 0x098, s.tx[6]), (.rdTx7, 0x09C, s.tx[7]), (.rdTx8, 0x0A0, s.tx[8]),
      (.rdTx9, 0x0A4, s.tx[9]), (.rdTx10, 0x0A8, s.tx[10]), (.rdTx11, 0x0AC, s.tx[11]), (.rdTx12, 0x0B0, s.tx[12]),
      (.rdRx0, 0x0C0, s.rx[0]), (.rdRx1, 0x0C4, s.rx[1]), (.rdRx2, 0x0C8, s.rx[2]), (.rdRx3, 0x0CC, s.rx[3]),
      (.rdRx4, 0x0D0, s.rx[4]), (.rdRx5, 0x0D4, s.rx[5]), (.rdRx6, 0x0D8, s.rx[6]), (.rdRx7, 0x0DC, s.rx[7]),
      (.rdRx8, 0x0E0, s.rx[8]), (.rdRx9, 0x0E4, s.rx[9]), (.rdRx10, 0x0E8, s.rx[10]), (.rdRx11, 0x0EC, s.rx[11]),
      (.rdRx12, 0x0F0, s.rx[12]), (.rdPset0, 0x100, s.pset[0].setWidth 32), (.rdPset1, 0x104, s.pset[1].setWidth 32),
      (.rdPset2, 0x108, s.pset[2].setWidth 32), (.rdPset3, 0x10C, s.pset[3].setWidth 32),
      (.rdPset4, 0x110, s.pset[4].setWidth 32), (.rdPset5, 0x114, s.pset[5].setWidth 32),
      (.rdPset6, 0x118, s.pset[6].setWidth 32), (.rdPset7, 0x11C, s.pset[7].setWidth 32),
      (.rdPset8, 0x120, s.pset[8].setWidth 32), (.rdPset9, 0x124, s.pset[9].setWidth 32)] : List (Instr × Nat × Word)),
    exec p.1 s = .next { s with
      busLog := s.busLog ++ [if p.1.present s.cfg then .read p.2.1 p.2.2 else .error p.2.1] }

/-- R23, R24 (BUSY and STATE mirror ESTATE), and the code tables of R25, R26 and R40. -/
def Obligations.StatusReadReturnsTheFields : Prop :=
  (∀ s : State, ∃ w : Word, exec .rdStatus s = .next { s with busLog := s.busLog ++ [.read 0x004 w] } ∧
    w.toNat = (if s.estate = .idle then 0 else 1) + 2 * s.estate.code.toNat + 32 * s.result.code.toNat +
      512 * s.crcOk.toNat + 1024 * s.rxKind.code.toNat + 4096 * s.xferFail.toNat + 8192 * s.cmdRejected.toNat +
      16384 * s.werr.toNat) ∧
  [EState.idle, .hsOuterCheck, .hsOuterSleep, .hsOuterPoll, .hsOuterXfer, .hsInnerCheck, .hsInnerSettle, .hsInnerSleep,
    .hsInnerPoll, .hsInnerXfer, .sqStart, .sqReset, .sqBackoff, .sqEval].map (fun e => e.code.toNat) = List.range 14 ∧
  [ResultCode.none, .ok, .timeout, .protocol, .identified, .notDetected, .configured, .configIncomplete].map
    (fun r => r.code.toNat) = List.range 8 ∧
  [RxKind.other, .listening, .blListening, .echo].map (fun k => k.code.toNat) = List.range 4

/-- R235 with R31 to R34 and R39. Complete frame. -/
def Obligations.ScalarWritesStoreWhileIdle : Prop :=
  ∀ (s : State) (v : Word), s.estate = .idle → ∀ p ∈ ([
      ((.wrOuterBudget v), 0x020, { s with outerBudget := v }),
      ((.wrInnerBudget v), 0x024, { s with innerBudget := v }), ((.wrReadyCost v), 0x028, { s with readyCost := v }),
      ((.wrMinFw v), 0x02C, { s with minFw := v.setWidth 16 }), ((.wrOpcode v), 0x040, { s with opcode := v })] : List (Instr × Nat × State)),
    exec p.1 s = .next { p.2.2 with busLog := s.busLog ++ [.written p.2.1 v] }

/-- R235 with R39, R42 and R43, and R21 and R63 for the words an `N_P` below 11 leaves out (log 4). Complete frame. -/
def Obligations.ArrayWritesStoreWhileIdle : Prop :=
  ∀ (s : State) (v : Word), s.estate = .idle → ∀ p ∈ ([
      ((.wrParam1 v), 0x044, { s with param := s.param.set 0 v }),
      ((.wrParam2 v), 0x048, { s with param := s.param.set 1 v }),
      ((.wrParam3 v), 0x04C, { s with param := s.param.set 2 v }),
      ((.wrParam4 v), 0x050, { s with param := s.param.set 3 v }),
      ((.wrParam5 v), 0x054, { s with param := s.param.set 4 v }),
      ((.wrParam6 v), 0x058, { s with param := s.param.set 5 v }),
      ((.wrParam7 v), 0x05C, { s with param := s.param.set 6 v }),
      ((.wrParam8 v), 0x060, { s with param := s.param.set 7 v }),
      ((.wrParam9 v), 0x064, { s with param := s.param.set 8 v }),
      ((.wrParam10 v), 0x068, { s with param := s.param.set 9 v }),
      ((.wrParam11 v), 0x06C, { s with param := s.param.set 10 v }),
      ((.wrRx0 v), 0x0C0, { s with rx := s.rx.set 0 v }), ((.wrRx1 v), 0x0C4, { s with rx := s.rx.set 1 v }),
      ((.wrRx2 v), 0x0C8, { s with rx := s.rx.set 2 v }), ((.wrRx3 v), 0x0CC, { s with rx := s.rx.set 3 v }),
      ((.wrRx4 v), 0x0D0, { s with rx := s.rx.set 4 v }), ((.wrRx5 v), 0x0D4, { s with rx := s.rx.set 5 v }),
      ((.wrRx6 v), 0x0D8, { s with rx := s.rx.set 6 v }), ((.wrRx7 v), 0x0DC, { s with rx := s.rx.set 7 v }),
      ((.wrRx8 v), 0x0E0, { s with rx := s.rx.set 8 v }), ((.wrRx9 v), 0x0E4, { s with rx := s.rx.set 9 v }),
      ((.wrRx10 v), 0x0E8, { s with rx := s.rx.set 10 v }), ((.wrRx11 v), 0x0EC, { s with rx := s.rx.set 11 v }),
      ((.wrRx12 v), 0x0F0, { s with rx := s.rx.set 12 v }),
      ((.wrPset0 v), 0x100, { s with pset := s.pset.set 0 (v.setWidth 16) }),
      ((.wrPset1 v), 0x104, { s with pset := s.pset.set 1 (v.setWidth 16) }),
      ((.wrPset2 v), 0x108, { s with pset := s.pset.set 2 (v.setWidth 16) }),
      ((.wrPset3 v), 0x10C, { s with pset := s.pset.set 3 (v.setWidth 16) }),
      ((.wrPset4 v), 0x110, { s with pset := s.pset.set 4 (v.setWidth 16) }),
      ((.wrPset5 v), 0x114, { s with pset := s.pset.set 5 (v.setWidth 16) }),
      ((.wrPset6 v), 0x118, { s with pset := s.pset.set 6 (v.setWidth 16) }),
      ((.wrPset7 v), 0x11C, { s with pset := s.pset.set 7 (v.setWidth 16) }),
      ((.wrPset8 v), 0x120, { s with pset := s.pset.set 8 (v.setWidth 16) }),
      ((.wrPset9 v), 0x124, { s with pset := s.pset.set 9 (v.setWidth 16) })] : List (Instr × Nat × State)),
    exec p.1 s = .next (if p.1.present s.cfg then { p.2.2 with busLog := s.busLog ++ [.written p.2.1 v] }
      else { s with busLog := s.busLog ++ [.error p.2.1] })

/-- R54, R235, for every register R21 calls gated, and R63 for the words an `N_P` below 11 leaves out (log 4). Complete frame.
That a dropped write completes on the bus, with no BusError, is the model's reading of R253 (log 24, DEDUCED). -/
def Obligations.GatedWritesDroppedWhileBusy : Prop :=
  ∀ (s : State) (v : Word), s.estate ≠ .idle → ∀ p ∈ ([
      ((.wrOuterBudget v), 0x020), ((.wrInnerBudget v), 0x024), ((.wrReadyCost v), 0x028), ((.wrMinFw v), 0x02C),
      ((.wrOpcode v), 0x040), ((.wrParam1 v), 0x044), ((.wrParam2 v), 0x048), ((.wrParam3 v), 0x04C),
      ((.wrParam4 v), 0x050), ((.wrParam5 v), 0x054), ((.wrParam6 v), 0x058), ((.wrParam7 v), 0x05C),
      ((.wrParam8 v), 0x060), ((.wrParam9 v), 0x064), ((.wrParam10 v), 0x068), ((.wrParam11 v), 0x06C),
      ((.wrRx0 v), 0x0C0), ((.wrRx1 v), 0x0C4), ((.wrRx2 v), 0x0C8), ((.wrRx3 v), 0x0CC), ((.wrRx4 v), 0x0D0),
      ((.wrRx5 v), 0x0D4), ((.wrRx6 v), 0x0D8), ((.wrRx7 v), 0x0DC), ((.wrRx8 v), 0x0E0), ((.wrRx9 v), 0x0E4),
      ((.wrRx10 v), 0x0E8), ((.wrRx11 v), 0x0EC), ((.wrRx12 v), 0x0F0), ((.wrPset0 v), 0x100), ((.wrPset1 v), 0x104),
      ((.wrPset2 v), 0x108), ((.wrPset3 v), 0x10C), ((.wrPset4 v), 0x110), ((.wrPset5 v), 0x114),
      ((.wrPset6 v), 0x118), ((.wrPset7 v), 0x11C), ((.wrPset8 v), 0x120), ((.wrPset9 v), 0x124)] : List (Instr × Nat)),
    exec p.1 s = .next (if p.1.present s.cfg then { s with werr := true, busLog := s.busLog ++ [.written p.2 v] }
      else { s with busLog := s.busLog ++ [.error p.2] })

/-- R236. Complete frame. The words of TX an `N_P` below 11 leaves out are reserved offsets (R21, R63; log 4).
That a dropped write completes on the bus, with no BusError, is the model's reading of R253 (log 24, DEDUCED). -/
def Obligations.ReadOnlyWritesDropped : Prop :=
  ∀ (s : State) (v : Word), ∀ p ∈ ([
      ((.wrStatus v), 0x004), ((.wrVersion v), 0x01C), ((.wrOuterRemain v), 0x030), ((.wrInnerCount v), 0x034),
      ((.wrAttempt v), 0x038), ((.wrTx0 v), 0x080), ((.wrTx1 v), 0x084), ((.wrTx2 v), 0x088), ((.wrTx3 v), 0x08C),
      ((.wrTx4 v), 0x090), ((.wrTx5 v), 0x094), ((.wrTx6 v), 0x098), ((.wrTx7 v), 0x09C), ((.wrTx8 v), 0x0A0),
      ((.wrTx9 v), 0x0A4), ((.wrTx10 v), 0x0A8), ((.wrTx11 v), 0x0AC), ((.wrTx12 v), 0x0B0)] : List (Instr × Nat)),
    exec p.1 s = .next (if p.1.present s.cfg then { s with werr := true, busLog := s.busLog ++ [.written p.2 v] }
      else { s with busLog := s.busLog ++ [.error p.2] })

/-- R111, R112, R141 to R143 (and R28 to R30): accepted at any time (R54). Complete frame. -/
def Obligations.CrcAndPkWrites : Prop :=
  ∀ (s : State) (v : Word),
    exec (.crcReset v) s = .next { s with
      crcAcc := (if v.getLsbD 0 then s.cfg.crcInit else s.crcAcc), busLog := s.busLog ++ [.written 0x008 v] } ∧
    exec (.crcFeed v) s = .next { s with
      crcAcc := crcWord s.cfg.crcPoly s.crcAcc v, busLog := s.busLog ++ [.written 0x00C v] } ∧
    exec (.pkWrite v) s = .next { s with pk := v, busLog := s.busLog ++ [.written 0x010 v] } ∧
    exec (.pkHiWrite v) s = .next { s with
      pk := (v &&& 0x0000FFFF#32) <<< 16 ||| (s.pk &&& 0x0000FFFF#32), busLog := s.busLog ++ [.written 0x014 v] } ∧
    exec (.pkLoWrite v) s = .next { s with
      pk := (s.pk &&& 0xFFFF0000#32) ||| (v &&& 0x0000FFFF#32), busLog := s.busLog ++ [.written 0x018 v] }

/-- R110, R113, R115 and R117, for every `N_P` the model takes. -/
def Obligations.CodecFunctions : Prop :=
  (∀ poly c w : Word,
    crcWord poly c w = (fun x : Word => if x.getLsbD 31 then (x <<< 1) ^^^ poly else x <<< 1)^[32] (c ^^^ w)) ∧
  crcWord 0x04C11DB7#32 0xFFFFFFFF#32 0x00000000#32 = 0xC704DD7B#32 ∧
  crcWord 0x04C11DB7#32 0xFFFFFFFF#32 0x12345678#32 = 0xDF8A8A2B#32 ∧
  (∀ (cfg : Config) (f : Frame), crcFrame cfg f =
    List.foldl (crcWord cfg.crcPoly) cfg.crcInit (f.toList.take (cfg.nP.val + 1))) ∧
  (∀ (cfg : Config) (f : Frame), cfg.nP = 11 → crcFrame cfg f =
    List.foldl (crcWord cfg.crcPoly) cfg.crcInit
      [f[0], f[1], f[2], f[3], f[4], f[5], f[6], f[7], f[8], f[9], f[10], f[11]]) ∧
  (∀ (cfg : Config) (f : Frame), cfg.nP = 10 → crcFrame cfg f =
    List.foldl (crcWord cfg.crcPoly) cfg.crcInit
      [f[0], f[1], f[2], f[3], f[4], f[5], f[6], f[7], f[8], f[9], f[10]]) ∧
  (∀ (cfg : Config) (o : Word) (p : Params), (encodeFrame cfg o p)[0] = o ∧
    (∀ i : Fin 11, i.val < cfg.nP.val → (encodeFrame cfg o p)[i.val + 1] = p[i]) ∧
    (∀ j : Fin 13, j.val = cfg.nP.val + 1 → (encodeFrame cfg o p)[j] = crcFrame cfg (encodeFrame cfg o p))) ∧
  (∀ i : Fin 11, zeroParams[i] = 0#32) ∧
  (∀ (cfg : Config) (f : Frame) (j : Fin 13), j.val = cfg.nP.val + 1 →
    (verifyFrame cfg f = true ↔ crcFrame cfg f = f[j]))

/-- R116, R118, R119. Complete frame. Rejection while busy is CommandsRejectedWhileBusyOrReserved. -/
def Obligations.EncodeAndVerifyCommands : Prop :=
  ∀ s : State, s.estate = .idle →
    exec .encode s = .next { s with
      tx := encodeFrame s.cfg s.opcode s.param, result := .ok, busLog := s.busLog ++ [.written 0x000 1#32] } ∧
    exec .verify s = .next { s with
      crcOk := decide (crcFrame s.cfg s.rx = s.rx[s.cfg.crcIndex]),
      rxKind := (if s.rx[0] = s.cfg.opcListening then .listening
        else if s.rx[0] = s.cfg.opcBlListening then .blListening
        else if s.rx[0] = s.opcode then .echo else .other),
      xferFail := false, result := .ok, busLog := s.busLog ++ [.written 0x000 2#32] }

/-- R230 (followed against vector X1 of 95_test_vectors.md, log 13) and R231. Complete frame. -/
def Obligations.NopAndClearStatusCommands : Prop :=
  ∀ s : State, s.estate = .idle →
    exec .nop s = .next { s with busLog := s.busLog ++ [.written 0x000 0#32] } ∧
    exec .clearStatus s = .next { s with
      result := .none, crcOk := false, rxKind := .other, xferFail := false, cmdRejected := false, werr := false,
      busLog := s.busLog ++ [.written 0x000 8#32] }

/-- R146 and R147 with the table of R145. Complete frame. -/
def Obligations.PackAndUnpackDefaultLayout : Prop :=
  ∀ s : State, s.estate = .idle → s.cfg.psetLayout = Config.defaultPsetLayout →
    exec .packPset s = .next { s with
      param := #v[s.pset[0] ++ s.pset[1], s.pset[2] ++ s.pset[3], s.pset[4] ++ s.pset[5], s.pset[6] ++ s.pset[7],
        s.pset[8] ++ s.pset[9], s.param[5], s.param[6], s.param[7], s.param[8], s.param[9], s.param[10]],
      result := .ok, busLog := s.busLog ++ [.written 0x000 6#32] } ∧
    exec .unpackPset s = .next { s with
      pset := #v[(s.param[0] >>> 16).setWidth 16, s.param[0].setWidth 16, (s.param[1] >>> 16).setWidth 16,
        s.param[1].setWidth 16, (s.param[2] >>> 16).setWidth 16, s.param[2].setWidth 16, (s.param[3] >>> 16).setWidth 16,
        s.param[3].setWidth 16, (s.param[4] >>> 16).setWidth 16, s.param[4].setWidth 16],
      result := .ok, busLog := s.busLog ++ [.written 0x000 7#32] }

/-- R180 with R197, R210, R216: the step of the CTRL write. Complete frame. The later steps have statements of their own. -/
def Obligations.LongCommandsStart : Prop :=
  ∀ s : State, s.estate = .idle →
    exec .handshake s = .next { s with
      tx := encodeFrame s.cfg s.opcode s.param, eop := .handshake, attempt := 0#32, result := .none,
      outerRemain := s.outerBudget, innerCount := 0#32, estate := .hsOuterCheck,
      busLog := s.busLog ++ [.written 0x000 3#32] } ∧
    exec .identify s = .next { s with
      tx := encodeFrame s.cfg s.cfg.opcReportInfo (Vector.replicate 11 0#32), eop := .identify, attempt := 0#32,
      result := .none, estate := .sqStart, busLog := s.busLog ++ [.written 0x000 4#32] } ∧
    exec .configure s = .next { s with
      tx := encodeFrame s.cfg s.cfg.opcSetup s.param, eop := .configure, attempt := 0#32, result := .none,
      estate := .sqStart, busLog := s.busLog ++ [.written 0x000 5#32] }

/-- R233. Complete frame. That a rejected write completes on the bus, with no BusError, is the model's reading of R253 (log 24,
DEDUCED). -/
def Obligations.CommandsRejectedWhileBusyOrReserved : Prop :=
  (∀ s : State, s.estate ≠ .idle → ∀ p ∈ ([
      (.nop, 0#32), (.encode, 1#32), (.verify, 2#32), (.handshake, 3#32), (.identify, 4#32), (.configure, 5#32),
      (.packPset, 6#32), (.unpackPset, 7#32), (.clearStatus, 8#32)] : List (Instr × Word)),
    exec p.1 s = .next { s with cmdRejected := true, busLog := s.busLog ++ [.written 0x000 p.2] }) ∧
  (∀ (s : State) (v : Word), s.estate ≠ .idle ∨ 8 < v.toNat →
    exec (.wrCtrl v) s = .next { s with cmdRejected := true, busLog := s.busLog ++ [.written 0x000 v] })

/-- R189. That a WIRE row is run as an instruction where the engine handles a FRAME word 0 is the model's choice (log 15). -/
def Obligations.WireOpcodesSettle : Prop :=
  ∀ s : State, s.cfg.wf → s.estate = .hsInnerSettle → s.port.completes = true →
    exec .opcBlEraseAll s = .next { s with trace := s.trace ++ [.sleep 600#32], estate := .hsInnerSleep } ∧
    exec .opcBlWriteFirmware s = .next { s with trace := s.trace ++ [.sleep 10#32], estate := .hsInnerSleep } ∧
    ∀ i ∈ [Instr.opcNone, .opcReportInfo, .opcSetup, .opcListening, .opcBlListening],
      exec i s = .next { s with estate := .hsInnerSleep }

/-- R186, R187, with the Exchange of R165, R166 and the check of R119 (`received`). That a WIRE row is run as an instruction is the model's choice (log 15). -/
def Obligations.WireOpcodesAcknowledge : Prop :=
  ∀ s : State, s.cfg.wf → s.estate = .hsOuterXfer → s.port.completes = true → s.port.ok = true →
    verifyFrame s.cfg s.port.reply = true →
    (∀ p ∈ [(Instr.opcListening, s.cfg.opcListening), (.opcBlListening, s.cfg.opcBlListening)], s.port.reply[0] = p.2 →
      exec p.1 s = .next { received s.port s with innerCount := 0#32, estate := .hsInnerCheck }) ∧
    (∀ p ∈ [(Instr.opcNone, s.cfg.opcNone), (.opcReportInfo, s.cfg.opcReportInfo), (.opcSetup, s.cfg.opcSetup),
        (.opcBlEraseAll, s.cfg.opcBlEraseAll), (.opcBlWriteFirmware, s.cfg.opcBlWriteFirmware)], s.port.reply[0] = p.2 →
      exec p.1 s = .next { received s.port s with estate := .hsOuterCheck })

/-- R192, R195: an echo reply carries the probe's own opcode. That a WIRE row is run as an instruction is the model's choice (log 15). -/
def Obligations.WireOpcodesEcho : Prop :=
  ∀ s : State, s.estate = .hsInnerXfer → s.eop = .handshake → s.port.completes = true → s.port.ok = true →
    verifyFrame s.cfg s.port.reply = true → ∀ p ∈ ([
      (.opcNone, s.cfg.opcNone), (.opcReportInfo, s.cfg.opcReportInfo), (.opcSetup, s.cfg.opcSetup),
      (.opcListening, s.cfg.opcListening), (.opcBlListening, s.cfg.opcBlListening),
      (.opcBlEraseAll, s.cfg.opcBlEraseAll), (.opcBlWriteFirmware, s.cfg.opcBlWriteFirmware)] : List (Instr × Word)), s.port.reply[0] = p.2 →
    exec p.1 s = .next (if s.tx[0] = p.2
      then { received s.port s with result := .ok, eop := .none, estate := .idle }
      else { received s.port s with estate := .hsInnerCheck })

/-- R193, and the probe step of R210 and R216; that the step stands alone as the WIRE row's meaning is the model's choice (log 15). -/
def Obligations.WireOpcodesWhileIdle : Prop :=
  ∀ s : State, s.estate = .idle →
    exec .opcReportInfo s = .next { s with tx := encodeFrame s.cfg s.cfg.opcReportInfo (Vector.replicate 11 0#32) } ∧
    exec .opcSetup s = .next { s with tx := encodeFrame s.cfg s.cfg.opcSetup s.param } ∧
    ∀ i ∈ [Instr.opcNone, .opcListening, .opcBlListening, .opcBlEraseAll, .opcBlWriteFirmware], exec i s = .next s

/-- R195, its pseudocode. -/
def Obligations.HandshakeFinish : Prop :=
  ∀ s : State,
    (s.eop = .handshake → hsFinish .ok s = { s with result := .ok, eop := .none, estate := .idle } ∧
      hsFinish .timeout s = { s with result := .timeout, eop := .none, estate := .idle } ∧
      hsFinish .protocol s = { s with result := .protocol, eop := .none, estate := .idle }) ∧
    (s.eop = .identify ∨ s.eop = .configure → ∀ res, hsFinish res s = { s with hsRes := res, estate := .sqEval })

/-- R182 to R185. `port` holds the environment's answer (log 7). -/
def Obligations.OuterLoopSteps : Prop :=
  ∀ (s : State) (ans : EnvAnswer),
    (s.estate = .hsOuterCheck → act (.engine ans) s = .next
      (if s.outerRemain = 0#32 then hsFinish .timeout { s with port := ans }
        else { s with port := ans, estate := .hsOuterSleep })) ∧
    (s.estate = .hsOuterSleep → ans.completes = true → act (.engine ans) s = .next
      { s with port := ans, trace := s.trace ++ [.sleep 1#32], outerRemain := s.outerRemain - 1#32,
               estate := .hsOuterPoll }) ∧
    (s.estate = .hsOuterPoll → ans.completes = true → ans.ready = false → act (.engine ans) s = .next
      { s with port := ans, trace := s.trace ++ [.ready false], estate := .hsOuterCheck }) ∧
    (s.estate = .hsOuterPoll → ans.completes = true → ans.ready = true → act (.engine ans) s = .next
      { s with port := ans, trace := s.trace ++ [.ready true],
               outerRemain := (if s.readyCost ≤ s.outerRemain then s.outerRemain - s.readyCost else 0#32),
               estate := .hsOuterXfer })

/-- R186, R187, with R166 and R119 in `received` and `lost`. The draws are free: the frame is some frame. -/
def Obligations.OuterTransferStep : Prop :=
  ∀ (s : State) (ans : EnvAnswer), s.estate = .hsOuterXfer → ans.completes = true →
    (ans.ok = true → act (.engine ans) s = .next
      (if verifyFrame s.cfg ans.reply = true ∧
          (ans.reply[0] = s.cfg.opcListening ∨ ans.reply[0] = s.cfg.opcBlListening)
        then { received ans s with innerCount := 0#32, estate := .hsInnerCheck }
        else { received ans s with estate := .hsOuterCheck })) ∧
    (ans.ok = false → ∃ f, act (.engine ans) s = .next { lost ans f s with estate := .hsOuterCheck })

/-- R188 to R191, every branch. -/
def Obligations.InnerLoopSteps : Prop :=
  ∀ (s : State) (ans : EnvAnswer),
    (s.estate = .hsInnerCheck → act (.engine ans) s = .next
      (if s.innerBudget ≤ s.innerCount then hsFinish .protocol { s with port := ans }
        else { s with port := ans, innerCount := s.innerCount + 1#32, estate := .hsInnerSettle })) ∧
    (s.estate = .hsInnerSettle → ans.completes = true → act (.engine ans) s = .next
      { s with port := ans, trace := s.trace ++ (if s.tx[0] = s.cfg.opcBlEraseAll then [.sleep 600#32]
                 else if s.tx[0] = s.cfg.opcBlWriteFirmware then [.sleep 10#32] else []),
               estate := .hsInnerSleep }) ∧
    (s.estate = .hsInnerSleep → ans.completes = true → act (.engine ans) s = .next
      { s with port := ans, trace := s.trace ++ [.sleep 1#32], estate := .hsInnerPoll }) ∧
    (s.estate = .hsInnerPoll → ans.completes = true → act (.engine ans) s = .next
      { s with port := ans, trace := s.trace ++ [.ready ans.ready],
               estate := (if ans.ready then .hsInnerXfer else .hsInnerCheck) })

/-- R192, with R166 and R119 in `received` and `lost`, and R195 in `hsFinish` (HandshakeFinish). -/
def Obligations.InnerTransferStep : Prop :=
  ∀ (s : State) (ans : EnvAnswer), s.estate = .hsInnerXfer → ans.completes = true →
    (ans.ok = true → act (.engine ans) s = .next
      (if verifyFrame s.cfg ans.reply = true ∧ ans.reply[0] = s.tx[0] then hsFinish .ok (received ans s)
        else { received ans s with estate := .hsInnerCheck })) ∧
    (ans.ok = false → ∃ f, act (.engine ans) s = .next { lost ans f s with estate := .hsInnerCheck })

/-- R211, R214, R215 and hs_begin of R197. -/
def Obligations.SequencerSteps : Prop :=
  ∀ (s : State) (ans : EnvAnswer),
    (s.estate = .sqStart → act (.engine ans) s = .next
      (if s.eop = .configure ∧ 1 ≤ s.attempt.toNat then { s with port := ans, estate := .sqReset }
        else { s with port := ans, outerRemain := s.outerBudget, innerCount := 0#32, estate := .hsOuterCheck })) ∧
    (s.estate = .sqReset → ans.completes = true → act (.engine ans) s = .next
      { s with port := ans, trace := s.trace ++ [.resetDev], estate := .sqBackoff }) ∧
    (s.estate = .sqBackoff → ans.completes = true → act (.engine ans) s = .next
      { s with port := ans, trace := s.trace ++ [.sleep (300#32 * s.attempt)], outerRemain := s.outerBudget,
               innerCount := 0#32, estate := .hsOuterCheck })

/-- R212 and R213, every branch. -/
def Obligations.SequencerEvaluation : Prop :=
  ∀ (s : State) (ans : EnvAnswer), s.estate = .sqEval →
    (s.eop = .identify → act (.engine ans) s = .next
      (let v : Sub16 := match s.cfg.versionField with
        | .lo => s.rx[1].setWidth 16
        | .hi => (s.rx[1] >>> 16).setWidth 16
      if s.hsRes = .ok then
        if s.minFw.toNat ≤ v.toNat then
          { s with port := ans, version := v, result := .identified, eop := .none, estate := .idle }
        else { s with port := ans, version := 9999#16, result := .notDetected, eop := .none, estate := .idle }
      else if 5#32 ≤ s.attempt + 1#32 then
        { s with port := ans, version := 9999#16, result := .notDetected, eop := .none, estate := .idle }
      else { s with port := ans, attempt := s.attempt + 1#32, estate := .sqStart })) ∧
    (s.eop = .configure → act (.engine ans) s = .next
      (if s.hsRes = .ok then { s with port := ans, result := .configured, eop := .none, estate := .idle }
      else if 10#32 ≤ s.attempt + 1#32 then
        { s with port := ans, result := .configIncomplete, eop := .none, estate := .idle }
      else { s with port := ans, attempt := s.attempt + 1#32, estate := .sqStart }))

/-- R61 to R63, R250, and R21 for the ranges of another `N_P`. The fault outside the window is the model's choice (log 11); that BusError is a next state is log 10. -/
def Obligations.BadAccessesEndInBusError : Prop :=
  (∀ (s : State) (a : Access), a.off < 0x200 →
    (a.width ≠ .w32 ∨ a.off % 4 ≠ 0 ∨ a.off = 0x03C ∨ (0x044 + 4 * s.cfg.nP.val ≤ a.off ∧ a.off ≤ 0x07C) ∨
      (0x088 + 4 * s.cfg.nP.val ≤ a.off ∧ a.off ≤ 0x0BC) ∨ (0x0C8 + 4 * s.cfg.nP.val ≤ a.off ∧ a.off ≤ 0x0FC) ∨
      0x128 ≤ a.off) →
    act (.host a) s = .next { s with busLog := s.busLog ++ [.error a.off] }) ∧
  (∀ (s : State) (a : Access), 0x200 ≤ a.off → act (.host a) s = .fault (.outsideWindow a.off))

/-- R46, row by row. P_READY_COST and P_MIN_FW are OPEN (R6): the statement holds whatever they are. -/
def Obligations.ResetValues : Prop :=
  ∀ s : State, s = State.reset →
    s.result = .none ∧ s.crcOk = false ∧ s.rxKind = .other ∧ s.xferFail = false ∧ s.cmdRejected = false ∧
    s.werr = false ∧ s.estate = .idle ∧ statusWord s = 0#32 ∧ s.crcAcc = s.cfg.crcInit ∧ s.pk = 0#32 ∧
    s.version = 9999#16 ∧ s.outerBudget = 5000#32 ∧ s.innerBudget = 100#32 ∧ s.readyCost = s.cfg.pReadyCost ∧
    s.minFw = s.cfg.pMinFw ∧ s.outerRemain = 0#32 ∧ s.innerCount = 0#32 ∧ s.attempt = 0#32 ∧ s.opcode = 0#32 ∧
    (∀ i : Fin 11, s.param[i] = 0#32) ∧ (∀ j : Fin 13, s.tx[j] = 0#32 ∧ s.rx[j] = 0#32) ∧
    (∀ k : Fin 10, s.pset[k] = 0#16) ∧ s.eop = .none ∧ s.hsRes = .ok

/-- R270, R271, and R181 (the engine has no step in IDLE: that a scheduled one changes nothing is log 22). What block reset keeps outside the block's registers is log 19. -/
def Obligations.BlockResetStep : Prop :=
  ∀ s : State, ∃ t, act .blockReset s = .next t ∧
    t = { State.resetWith s.cfg with
      trace := s.trace, busLog := s.busLog, inputs := s.inputs, port := s.port, draws := s.draws } ∧
    ∀ ans, act (.engine ans) t = .next { t with port := ans }

/-- The base of StepKeepsInv. That seven values of an arbitrary permutation are the OPEN opcodes is log 2. -/
def Obligations.InvHoldsAtReset : Prop :=
  Inv State.reset

/-- The invariant `Inv`: R45, R275, R41, R17 and the shape of the microstates. That the words an `N_P` below 11 leaves out hold 0 is the model's (log 4). -/
def Obligations.StepKeepsInv : Prop :=
  ∀ s t : State, Inv s → step s = .next t → Inv t

/-- R123. `N_P` is a constant of the frame as CRC_POLY and CRC_INIT are of its checksum (R8). -/
def Obligations.EncodedFramesVerify : Prop :=
  (∀ (cfg : Config) (o : Word) (p : Params), verifyFrame cfg (encodeFrame cfg o p) = true) ∧
  (∀ (cfg cfg' : Config) (o : Word) (p : Params), cfg.nP = cfg'.nP → cfg.crcPoly = cfg'.crcPoly → cfg.crcInit = cfg'.crcInit →
    encodeFrame cfg o p = encodeFrame cfg' o p)

/-- R122, over every word, the checksum word included. -/
def Obligations.SingleBitErrorsDetected : Prop :=
  ∀ (cfg : Config) (f : Frame) (j : Fin 13) (b : Fin 32), j.val ≤ cfg.nP.val + 1 →
    cfg.crcPoly = 0x04C11DB7#32 → verifyFrame cfg f = true →
    verifyFrame cfg (f.set j (f[j] ^^^ (1#32 <<< b.val))) = false

/-- R124. -/
def Obligations.ChecksumIsAffine : Prop :=
  ∀ (cfg : Config) (f g : Frame),
    crcFrame cfg (Vector.zipWith (· ^^^ ·) f g) =
      crcFrame cfg f ^^^ crcFrame cfg g ^^^ crcFrame cfg (Vector.replicate 13 0#32)

/-- The derived example of R120, by R110 to R113. -/
def Obligations.HostUnitComputesTheFrameChecksum : Prop :=
  ∀ (s : State) (f : Frame), ∃ t : State,
    actAll ([.host (Access.wr 0x008 1#32)] ++ (f.toList.take (s.cfg.nP.val + 1)).map (fun w => .host (Access.wr 0x00C w)) ++
      [.host (Access.rd 0x00C)]) s = .next t ∧
    t.busLog.getLast? = some (.read 0x00C (crcFrame s.cfg f)) ∧
    t = { s with crcAcc := crcFrame s.cfg f, busLog := t.busLog }

/-- R140 and R148, for every layout R145 allows. That UNPACK then PACK restores all of PARAM, not PARAM[1..5] alone, rests on the
model's choice that halves no entry maps to are kept (log 17, DEDUCED). -/
def Obligations.PackingRoundTrips : Prop :=
  (∀ s : State, s.estate = .idle → s.cfg.psetLayout.toList.Nodup →
    (∃ t u, exec .packPset s = .next t ∧ exec .unpackPset t = .next u ∧ u.pset = s.pset) ∧
    (∃ t u, exec .unpackPset s = .next t ∧ exec .packPset t = .next u ∧ u.param = s.param)) ∧
  (∀ (s : State) (h l : Word),
    (∃ t u, exec (.pkHiWrite h) s = .next t ∧ exec (.pkLoWrite l) t = .next u ∧
      u.pk = h.setWidth 16 ++ l.setWidth 16) ∧
    (∃ t u, exec (.pkLoWrite l) s = .next t ∧ exec (.pkHiWrite h) t = .next u ∧
      u.pk = h.setWidth 16 ++ l.setWidth 16)) ∧
  (∀ w : Word, pack16 (hi16 w) (lo16 w) = w) ∧
  (∀ h l : Sub16, pack16 h l = h.setWidth 32 <<< 16 ||| l.setWidth 32 ∧ hi16 (pack16 h l) = h ∧ lo16 (pack16 h l) = l)

/-- R41: TX is written only by these. A rule over the whole machine. -/
def Obligations.OnlyFourCommandsWriteTx : Prop :=
  ∀ s t : State, step s = .next t → t.tx ≠ s.tx →
    (∃ rest, s.inputs = .blockReset :: rest) ∨
    (s.estate = .idle ∧ ∃ v rest, s.inputs = .host (Access.wr 0x000 v) :: rest ∧ v ∈ [1#32, 3#32, 4#32, 5#32])

/-- R35: VERSION is written only by IDENTIFY. A rule over the whole machine. -/
def Obligations.OnlyIdentifyWritesVersion : Prop :=
  ∀ s t : State, step s = .next t → t.version ≠ s.version →
    (∃ rest, s.inputs = .blockReset :: rest) ∨
    (s.estate = .sqEval ∧ s.eop = .identify ∧ ∃ ans rest, s.inputs = .engine ans :: rest)

/-- R181, over the whole machine. The second clause is the model's choice: R181 gives the engine no step in IDLE, and that a
scheduled engine step there changes nothing is log 22 (DESIGN CHOICE). -/
def Obligations.IdleIsLeftOnlyByLongCommands : Prop :=
  (∀ s t : State, step s = .next t → s.estate = .idle → t.estate ≠ .idle →
    ∃ v rest, s.inputs = .host (Access.wr 0x000 v) :: rest ∧ v ∈ [3#32, 4#32, 5#32]) ∧
  (∀ (s : State) (ans : EnvAnswer), s.estate = .idle → act (.engine ans) s = .next { s with port := ans })

/-- R8: no register and no operation changes them. That they are held in State is log 5. -/
def Obligations.ConstantsNeverChange : Prop :=
  ∀ s t : State, step s = .next t → t.cfg = s.cfg

/-- R54: nothing the engine reads changes during a long command except by its own steps. -/
def Obligations.HostCannotDisturbABusyEngine : Prop :=
  ∀ (s t : State) (a : Access), s.estate ≠ .idle → act (.host a) s = .next t →
    t = { s with crcAcc := t.crcAcc, pk := t.pk, cmdRejected := t.cmdRejected, werr := t.werr, busLog := t.busLog }

/-- R29, R54, R114: the host units share no state with the engine. A comparison of two runs. -/
def Obligations.EngineIgnoresHostUnits : Prop :=
  ∀ (s s' : State) (oracle : Oracle) (n : Nat), engineView s = engineView s' →
    ∃ t t', engineRun oracle n s = .next t ∧ engineRun oracle n s' = .next t' ∧ engineView t = engineView t' ∧
      t = { t with crcAcc := s.crcAcc, pk := s.pk, cmdRejected := s.cmdRejected, werr := s.werr, busLog := s.busLog }

/-- R193: OPC_NONE is read by no rule. A comparison of two runs. -/
def Obligations.OpcNoneIsReadByNoRule : Prop :=
  ∀ (s t : State) (i : Input) (w : Word), act i s = .next t → act i (withOpcNone w s) = .next (withOpcNone w t)

/-- R161, R165, R193 (no frame but the probe is sent), R162 (the durations). -/
def Obligations.EngineStepIssuesOneTransaction : Prop :=
  ∀ (s : State) (ans : EnvAnswer), ∃ t, act (.engine ans) s = .next t ∧ t.busLog = s.busLog ∧ t.tx = s.tx ∧
    (t.trace = s.trace ∨ ∃ e, t.trace = s.trace ++ [e] ∧ (∀ f g, e = .exchange f g → f = s.tx) ∧
      (∀ ms, e = .sleep ms → ms = 1#32 ∨ ms = 600#32 ∨ ms = 10#32 ∨ ms = 300#32 * s.attempt))

/-- R169: stuck, not finished, and block reset leaves it. That the step changes nothing and that an unanswered request is not in
the trace is the model's choice (log 8, DEDUCED). -/
def Obligations.UncompletedTransactionsWait : Prop :=
  ∀ (s : State) (ans : EnvAnswer), ans.completes = false →
    (s.estate.issuesTransaction = true ∨
      (s.estate = .hsInnerSettle ∧ (s.tx[0] = s.cfg.opcBlEraseAll ∨ s.tx[0] = s.cfg.opcBlWriteFirmware))) →
    act (.engine ans) s = .next { s with port := ans } ∧ ∃ t, act .blockReset s = .next t ∧ t.estate = .idle

/-- R194. -/
def Obligations.InnerLoopNeverReturnsToOuter : Prop :=
  ∀ (s : State) (ans : EnvAnswer), s.estate.inInnerLoop = true → ∃ t, act (.engine ans) s = .next t ∧
    t.outerRemain = s.outerRemain ∧
    (t.estate.inInnerLoop = true ∨
      (s.eop = .handshake ∧ t.estate = .idle ∧ (t.result = .ok ∨ t.result = .protocol)) ∨
      (s.eop ≠ .handshake ∧ t.estate = .sqEval ∧ (t.hsRes = .ok ∨ t.hsRes = .protocol)))

/-- R196 (never ready), R184, R200 (OUTER_BUDGET = 0). -/
def Obligations.NeverReadyHandshakeTimesOut : Prop :=
  ∀ (s : State) (oracle : Oracle), s.estate = .idle → oracle.Completes → (∀ n, (oracle n).ready = false) →
    ∃ t u, exec .handshake s = .next t ∧ engineRun oracle (3 * s.outerBudget.toNat + 1) t = .next u ∧
      u.estate = .idle ∧ u.eop = .none ∧ u.result = .timeout ∧ u.outerRemain = 0#32 ∧ u.rx = s.rx ∧
      u.trace = s.trace ++ neverReadyTrace s.outerBudget.toNat

/-- R217 (total exhaustion), R218 (five failed handshakes), R212, R213. -/
def Obligations.ExhaustedSequencersEnd : Prop :=
  ∀ (s : State) (oracle : Oracle), s.estate = .idle → oracle.Completes → (∀ n, (oracle n).ready = false) →
    (∃ t u, exec .identify s = .next t ∧ engineRun oracle (5 * (3 * s.outerBudget.toNat + 3)) t = .next u ∧
      u.estate = .idle ∧ u.result = .notDetected ∧ u.version = 9999#16 ∧ u.attempt = 4#32 ∧
      u.trace = s.trace ++ (List.replicate 5 (neverReadyTrace s.outerBudget.toNat)).flatten) ∧
    (∃ t u, exec .configure s = .next t ∧ engineRun oracle (10 * (3 * s.outerBudget.toNat + 3) + 18) t = .next u ∧
      u.estate = .idle ∧ u.result = .configIncomplete ∧ u.version = s.version ∧ u.attempt = 9#32 ∧
      u.trace = s.trace ++ exhaustedTrace s.outerBudget.toNat 10)

/-- R196, its two bounds. -/
def Obligations.HandshakeIsBounded : Prop :=
  ∀ (s : State) (oracle : Oracle), s.estate = .idle → oracle.Completes →
    ∃ t u n, exec .handshake s = .next t ∧ engineRun oracle n t = .next u ∧
      n ≤ 4 * s.outerBudget.toNat + 5 * s.innerBudget.toNat + 2 ∧
      u.estate = .idle ∧ (u.result = .ok ∨ u.result = .timeout ∨ u.result = .protocol) ∧
      u.trace.length ≤ s.trace.length + 3 * s.outerBudget.toNat + 4 * s.innerBudget.toNat

/-- R170. The premise `Inv` rules out states no run reaches (StepKeepsInv). -/
def Obligations.LongCommandsTerminate : Prop :=
  ∀ (s : State) (oracle : Oracle), Inv s → oracle.Completes →
    ∃ t n, engineRun oracle n s = .next t ∧ t.estate = .idle ∧
      n ≤ 10 * (4 * s.outerBudget.toNat + 5 * s.innerBudget.toNat + 6)

/-- R201. `handshakeFunction` is R201 written over the block's registers; hs_finish is R195. -/
def Obligations.HandshakeIsOneFunction : Prop :=
  ∀ (s : State) (oracle : Oracle), s.estate = .hsOuterCheck → s.outerRemain = s.outerBudget → s.innerCount = 0#32 →
    oracle.Completes →
    ∃ n u, engineRun oracle n s = .next u ∧
      u = hsFinish (handshakeFunction oracle s).1 { (handshakeFunction oracle s).2 with port := u.port }

/-- R198; the settle Sleep is that of R189. A frame of the environment is its first `FRAME_WORDS` words (`trimFrame`). -/
def Obligations.FastestHandshake : Prop :=
  ∀ (s : State) (l e : Frame), s.estate = .idle → s.outerBudget ≠ 0#32 → s.innerBudget ≠ 0#32 →
    verifyFrame s.cfg l = true → (l[0] = s.cfg.opcListening ∨ l[0] = s.cfg.opcBlListening) →
    verifyFrame s.cfg e = true → e[0] = s.opcode →
    ∃ u, actAll ([.host (Access.wr 0x000 3#32)] ++ List.replicate 4 (.engine (answerWith l)) ++
        List.replicate 5 (.engine (answerWith e))) s = .next u ∧
      u.estate = .idle ∧ u.result = .ok ∧ u.innerCount = 1#32 ∧ u.rx = trimFrame s.cfg e ∧
      u.outerRemain = (if s.readyCost ≤ s.outerBudget - 1#32 then s.outerBudget - 1#32 - s.readyCost else 0#32) ∧
      u.trace = s.trace ++ [.sleep 1#32, .ready true, .exchange u.tx (some (trimFrame s.cfg l))] ++ settleEvents s.cfg s.opcode ++
        [.sleep 1#32, .ready true, .exchange u.tx (some (trimFrame s.cfg e))] ∧
      u.tx = encodeFrame s.cfg s.opcode s.param
end

