-- ==== Sys2Proof/Laws/Decode.lean ====
section
/-! SUPPORT. The fields of an ACCESS word, and of the words the encoder writes. -/

namespace Sys2Proof

theorem extract_off (b : BitVec 1) (off : BitVec 9) (data : Word) :
    BitVec.extractLsb' (n := 1 + 9 + 32) 32 9 (b ++ off ++ data) = off := by
  ext i hi
  rw [BitVec.getElem_extractLsb', BitVec.getLsbD_append, BitVec.getLsbD_append]
  rw [if_neg (by omega), if_pos (by omega), show 32 + i - 32 = i by omega]
  exact BitVec.getLsbD_eq_getElem hi

theorem extract_data (b : BitVec 1) (off : BitVec 9) (data : Word) :
    BitVec.extractLsb' (n := 1 + 9 + 32) 0 32 (b ++ off ++ data) = data := by
  ext i hi
  rw [BitVec.getElem_extractLsb', BitVec.getLsbD_append, if_pos (by omega), Nat.zero_add]
  exact BitVec.getLsbD_eq_getElem hi

theorem extract_dir (b : BitVec 1) (off : BitVec 9) (data : Word) :
    BitVec.extractLsb' (n := 1 + 9 + 32) 41 1 (b ++ off ++ data) = b := by
  ext i hi
  rw [BitVec.getElem_extractLsb', BitVec.getLsbD_append, BitVec.getLsbD_append]
  rw [if_neg (by omega), if_neg (by omega), show 41 + i - 32 - 9 = i by omega]
  exact BitVec.getLsbD_eq_getElem hi

/-- OFF of an assembled ACCESS word (R81). -/
@[simp] theorem accessOff_accessWord (dir : Dir) (off : BitVec 9) (data : Word) :
    accessOff (accessWord dir off data) = off := extract_off dir.bit off data

/-- DATA of an assembled ACCESS word (R81). -/
@[simp] theorem accessData_accessWord (dir : Dir) (off : BitVec 9) (data : Word) :
    accessData (accessWord dir off data) = data := extract_data dir.bit off data

/-- DIR of an assembled ACCESS word (R81). -/
@[simp] theorem accessDir_accessWord (dir : Dir) (off : BitVec 9) (data : Word) :
    accessDir (accessWord dir off data) = dir := by
  unfold accessDir
  rw [show (accessWord dir off data).extractLsb' 41 1 = dir.bit from extract_dir dir.bit off data]
  cases dir <;> rfl

theorem accessDir_bit (w : BitVec 42) : (accessDir w).bit = w.extractLsb' 41 1 := by
  unfold accessDir
  generalize w.extractLsb' 41 1 = b
  revert b
  decide

theorem append_extracts (w : BitVec (1 + 9 + 32)) :
    w.extractLsb' 41 1 ++ w.extractLsb' 32 9 ++ w.extractLsb' 0 32 = w := by
  ext i hi
  simp only [BitVec.getElem_append, BitVec.getElem_extractLsb']
  split
  · simp [BitVec.getLsbD_eq_getElem hi]
  · split
    · have : 32 + (i - 32) = i := by omega
      simp [this, BitVec.getLsbD_eq_getElem hi]
    · have h1 : i = 41 := by omega
      subst h1
      rfl

/-- An ACCESS word is its three fields (R81). -/
theorem accessWord_fields (w : BitVec 42) : accessWord (accessDir w) (accessOff w) (accessData w) = w := by
  unfold accessWord
  rw [accessDir_bit]
  exact append_extracts w

/-- The offset of a row is one R21 lists for `N_P` = 11. -/
theorem accessRows_listed : accessRows.all (fun r => offsetListed 11 r.off.toNat) = true := by decide +kernel

/-- An access at an offset the block instance does not list decodes to no row (R63). -/
theorem decodeAccess_unlisted (cfg : Config) (w : BitVec 42) (h : offsetListed cfg.nP.val (accessOff w).toNat = false) :
    decodeAccess cfg w = none := by
  simp [decodeAccess, h]

/-- An access at a listed offset decodes by the rows (R94). -/
theorem decodeAccess_listed (cfg : Config) (w : BitVec 42) (h : offsetListed cfg.nP.val (accessOff w).toNat = true) :
    decodeAccess cfg w =
      (accessRows.find? fun r => r.dir == accessDir w && r.off == accessOff w).map fun r => r.build (accessData w) := by
  simp [decodeAccess, h]

namespace Laws

/-- The form of the word of a write row at a listed offset. -/
theorem write_form (off : BitVec 9) (data : Word) (h : offsetListed 11 off.toNat = true) :
    offsetListed 11 (accessOff (accessWord .write off data)).toNat = true ∧
      (accessDir (accessWord .write off data) = .read → accessData (accessWord .write off data) = 0#32) := by
  simp [h]

/-- The form of the word of a read row at a listed offset. -/
theorem read_form (off : BitVec 9) (h : offsetListed 11 off.toNat = true) :
    offsetListed 11 (accessOff (accessWord .read off 0#32)).toNat = true ∧
      (accessDir (accessWord .read off 0#32) = .read → accessData (accessWord .read off 0#32) = 0#32) := by
  simp [h]

end Laws

end Sys2Proof
end

