-- ==== Sys2Proof/Laws/State.lean ====
section
/-! SUPPORT. One lemma per field per update of State: what each named update changes, and that it changes nothing else. -/

namespace Sys2Proof.Machine

open Sys2Proof

@[simp] theorem logBus_cfg (e : BusEvent) (s : State) : (logBus e s).cfg = s.cfg := rfl
@[simp] theorem logBus_result (e : BusEvent) (s : State) : (logBus e s).result = s.result := rfl
@[simp] theorem logBus_crcOk (e : BusEvent) (s : State) : (logBus e s).crcOk = s.crcOk := rfl
@[simp] theorem logBus_rxKind (e : BusEvent) (s : State) : (logBus e s).rxKind = s.rxKind := rfl
@[simp] theorem logBus_xferFail (e : BusEvent) (s : State) : (logBus e s).xferFail = s.xferFail := rfl
@[simp] theorem logBus_cmdRejected (e : BusEvent) (s : State) : (logBus e s).cmdRejected = s.cmdRejected := rfl
@[simp] theorem logBus_werr (e : BusEvent) (s : State) : (logBus e s).werr = s.werr := rfl
@[simp] theorem logBus_crcAcc (e : BusEvent) (s : State) : (logBus e s).crcAcc = s.crcAcc := rfl
@[simp] theorem logBus_pk (e : BusEvent) (s : State) : (logBus e s).pk = s.pk := rfl
@[simp] theorem logBus_version (e : BusEvent) (s : State) : (logBus e s).version = s.version := rfl
@[simp] theorem logBus_outerBudget (e : BusEvent) (s : State) : (logBus e s).outerBudget = s.outerBudget := rfl
@[simp] theorem logBus_innerBudget (e : BusEvent) (s : State) : (logBus e s).innerBudget = s.innerBudget := rfl
@[simp] theorem logBus_readyCost (e : BusEvent) (s : State) : (logBus e s).readyCost = s.readyCost := rfl
@[simp] theorem logBus_minFw (e : BusEvent) (s : State) : (logBus e s).minFw = s.minFw := rfl
@[simp] theorem logBus_outerRemain (e : BusEvent) (s : State) : (logBus e s).outerRemain = s.outerRemain := rfl
@[simp] theorem logBus_innerCount (e : BusEvent) (s : State) : (logBus e s).innerCount = s.innerCount := rfl
@[simp] theorem logBus_attempt (e : BusEvent) (s : State) : (logBus e s).attempt = s.attempt := rfl
@[simp] theorem logBus_opcode (e : BusEvent) (s : State) : (logBus e s).opcode = s.opcode := rfl
@[simp] theorem logBus_param (e : BusEvent) (s : State) : (logBus e s).param = s.param := rfl
@[simp] theorem logBus_tx (e : BusEvent) (s : State) : (logBus e s).tx = s.tx := rfl
@[simp] theorem logBus_rx (e : BusEvent) (s : State) : (logBus e s).rx = s.rx := rfl
@[simp] theorem logBus_pset (e : BusEvent) (s : State) : (logBus e s).pset = s.pset := rfl
@[simp] theorem logBus_estate (e : BusEvent) (s : State) : (logBus e s).estate = s.estate := rfl
@[simp] theorem logBus_eop (e : BusEvent) (s : State) : (logBus e s).eop = s.eop := rfl
@[simp] theorem logBus_hsRes (e : BusEvent) (s : State) : (logBus e s).hsRes = s.hsRes := rfl
@[simp] theorem logBus_trace (e : BusEvent) (s : State) : (logBus e s).trace = s.trace := rfl
@[simp] theorem logBus_busLog (e : BusEvent) (s : State) : (logBus e s).busLog = s.busLog ++ [e] := rfl
@[simp] theorem logBus_inputs (e : BusEvent) (s : State) : (logBus e s).inputs = s.inputs := rfl
@[simp] theorem logBus_port (e : BusEvent) (s : State) : (logBus e s).port = s.port := rfl
@[simp] theorem logBus_draws (e : BusEvent) (s : State) : (logBus e s).draws = s.draws := rfl

@[simp] theorem reject_cfg (s : State) : (reject s).cfg = s.cfg := rfl
@[simp] theorem reject_result (s : State) : (reject s).result = s.result := rfl
@[simp] theorem reject_crcOk (s : State) : (reject s).crcOk = s.crcOk := rfl
@[simp] theorem reject_rxKind (s : State) : (reject s).rxKind = s.rxKind := rfl
@[simp] theorem reject_xferFail (s : State) : (reject s).xferFail = s.xferFail := rfl
@[simp] theorem reject_cmdRejected (s : State) : (reject s).cmdRejected = true := rfl
@[simp] theorem reject_werr (s : State) : (reject s).werr = s.werr := rfl
@[simp] theorem reject_crcAcc (s : State) : (reject s).crcAcc = s.crcAcc := rfl
@[simp] theorem reject_pk (s : State) : (reject s).pk = s.pk := rfl
@[simp] theorem reject_version (s : State) : (reject s).version = s.version := rfl
@[simp] theorem reject_outerBudget (s : State) : (reject s).outerBudget = s.outerBudget := rfl
@[simp] theorem reject_innerBudget (s : State) : (reject s).innerBudget = s.innerBudget := rfl
@[simp] theorem reject_readyCost (s : State) : (reject s).readyCost = s.readyCost := rfl
@[simp] theorem reject_minFw (s : State) : (reject s).minFw = s.minFw := rfl
@[simp] theorem reject_outerRemain (s : State) : (reject s).outerRemain = s.outerRemain := rfl
@[simp] theorem reject_innerCount (s : State) : (reject s).innerCount = s.innerCount := rfl
@[simp] theorem reject_attempt (s : State) : (reject s).attempt = s.attempt := rfl
@[simp] theorem reject_opcode (s : State) : (reject s).opcode = s.opcode := rfl
@[simp] theorem reject_param (s : State) : (reject s).param = s.param := rfl
@[simp] theorem reject_tx (s : State) : (reject s).tx = s.tx := rfl
@[simp] theorem reject_rx (s : State) : (reject s).rx = s.rx := rfl
@[simp] theorem reject_pset (s : State) : (reject s).pset = s.pset := rfl
@[simp] theorem reject_estate (s : State) : (reject s).estate = s.estate := rfl
@[simp] theorem reject_eop (s : State) : (reject s).eop = s.eop := rfl
@[simp] theorem reject_hsRes (s : State) : (reject s).hsRes = s.hsRes := rfl
@[simp] theorem reject_trace (s : State) : (reject s).trace = s.trace := rfl
@[simp] theorem reject_busLog (s : State) : (reject s).busLog = s.busLog := rfl
@[simp] theorem reject_inputs (s : State) : (reject s).inputs = s.inputs := rfl
@[simp] theorem reject_port (s : State) : (reject s).port = s.port := rfl
@[simp] theorem reject_draws (s : State) : (reject s).draws = s.draws := rfl

@[simp] theorem dropWrite_cfg (s : State) : (dropWrite s).cfg = s.cfg := rfl
@[simp] theorem dropWrite_result (s : State) : (dropWrite s).result = s.result := rfl
@[simp] theorem dropWrite_crcOk (s : State) : (dropWrite s).crcOk = s.crcOk := rfl
@[simp] theorem dropWrite_rxKind (s : State) : (dropWrite s).rxKind = s.rxKind := rfl
@[simp] theorem dropWrite_xferFail (s : State) : (dropWrite s).xferFail = s.xferFail := rfl
@[simp] theorem dropWrite_cmdRejected (s : State) : (dropWrite s).cmdRejected = s.cmdRejected := rfl
@[simp] theorem dropWrite_werr (s : State) : (dropWrite s).werr = true := rfl
@[simp] theorem dropWrite_crcAcc (s : State) : (dropWrite s).crcAcc = s.crcAcc := rfl
@[simp] theorem dropWrite_pk (s : State) : (dropWrite s).pk = s.pk := rfl
@[simp] theorem dropWrite_version (s : State) : (dropWrite s).version = s.version := rfl
@[simp] theorem dropWrite_outerBudget (s : State) : (dropWrite s).outerBudget = s.outerBudget := rfl
@[simp] theorem dropWrite_innerBudget (s : State) : (dropWrite s).innerBudget = s.innerBudget := rfl
@[simp] theorem dropWrite_readyCost (s : State) : (dropWrite s).readyCost = s.readyCost := rfl
@[simp] theorem dropWrite_minFw (s : State) : (dropWrite s).minFw = s.minFw := rfl
@[simp] theorem dropWrite_outerRemain (s : State) : (dropWrite s).outerRemain = s.outerRemain := rfl
@[simp] theorem dropWrite_innerCount (s : State) : (dropWrite s).innerCount = s.innerCount := rfl
@[simp] theorem dropWrite_attempt (s : State) : (dropWrite s).attempt = s.attempt := rfl
@[simp] theorem dropWrite_opcode (s : State) : (dropWrite s).opcode = s.opcode := rfl
@[simp] theorem dropWrite_param (s : State) : (dropWrite s).param = s.param := rfl
@[simp] theorem dropWrite_tx (s : State) : (dropWrite s).tx = s.tx := rfl
@[simp] theorem dropWrite_rx (s : State) : (dropWrite s).rx = s.rx := rfl
@[simp] theorem dropWrite_pset (s : State) : (dropWrite s).pset = s.pset := rfl
@[simp] theorem dropWrite_estate (s : State) : (dropWrite s).estate = s.estate := rfl
@[simp] theorem dropWrite_eop (s : State) : (dropWrite s).eop = s.eop := rfl
@[simp] theorem dropWrite_hsRes (s : State) : (dropWrite s).hsRes = s.hsRes := rfl
@[simp] theorem dropWrite_trace (s : State) : (dropWrite s).trace = s.trace := rfl
@[simp] theorem dropWrite_busLog (s : State) : (dropWrite s).busLog = s.busLog := rfl
@[simp] theorem dropWrite_inputs (s : State) : (dropWrite s).inputs = s.inputs := rfl
@[simp] theorem dropWrite_port (s : State) : (dropWrite s).port = s.port := rfl
@[simp] theorem dropWrite_draws (s : State) : (dropWrite s).draws = s.draws := rfl

@[simp] theorem clearStatusFields_cfg (s : State) : (clearStatusFields s).cfg = s.cfg := rfl
@[simp] theorem clearStatusFields_result (s : State) : (clearStatusFields s).result = .none := rfl
@[simp] theorem clearStatusFields_crcOk (s : State) : (clearStatusFields s).crcOk = false := rfl
@[simp] theorem clearStatusFields_rxKind (s : State) : (clearStatusFields s).rxKind = .other := rfl
@[simp] theorem clearStatusFields_xferFail (s : State) : (clearStatusFields s).xferFail = false := rfl
@[simp] theorem clearStatusFields_cmdRejected (s : State) : (clearStatusFields s).cmdRejected = false := rfl
@[simp] theorem clearStatusFields_werr (s : State) : (clearStatusFields s).werr = false := rfl
@[simp] theorem clearStatusFields_crcAcc (s : State) : (clearStatusFields s).crcAcc = s.crcAcc := rfl
@[simp] theorem clearStatusFields_pk (s : State) : (clearStatusFields s).pk = s.pk := rfl
@[simp] theorem clearStatusFields_version (s : State) : (clearStatusFields s).version = s.version := rfl
@[simp] theorem clearStatusFields_outerBudget (s : State) : (clearStatusFields s).outerBudget = s.outerBudget := rfl
@[simp] theorem clearStatusFields_innerBudget (s : State) : (clearStatusFields s).innerBudget = s.innerBudget := rfl
@[simp] theorem clearStatusFields_readyCost (s : State) : (clearStatusFields s).readyCost = s.readyCost := rfl
@[simp] theorem clearStatusFields_minFw (s : State) : (clearStatusFields s).minFw = s.minFw := rfl
@[simp] theorem clearStatusFields_outerRemain (s : State) : (clearStatusFields s).outerRemain = s.outerRemain := rfl
@[simp] theorem clearStatusFields_innerCount (s : State) : (clearStatusFields s).innerCount = s.innerCount := rfl
@[simp] theorem clearStatusFields_attempt (s : State) : (clearStatusFields s).attempt = s.attempt := rfl
@[simp] theorem clearStatusFields_opcode (s : State) : (clearStatusFields s).opcode = s.opcode := rfl
@[simp] theorem clearStatusFields_param (s : State) : (clearStatusFields s).param = s.param := rfl
@[simp] theorem clearStatusFields_tx (s : State) : (clearStatusFields s).tx = s.tx := rfl
@[simp] theorem clearStatusFields_rx (s : State) : (clearStatusFields s).rx = s.rx := rfl
@[simp] theorem clearStatusFields_pset (s : State) : (clearStatusFields s).pset = s.pset := rfl
@[simp] theorem clearStatusFields_estate (s : State) : (clearStatusFields s).estate = s.estate := rfl
@[simp] theorem clearStatusFields_eop (s : State) : (clearStatusFields s).eop = s.eop := rfl
@[simp] theorem clearStatusFields_hsRes (s : State) : (clearStatusFields s).hsRes = s.hsRes := rfl
@[simp] theorem clearStatusFields_trace (s : State) : (clearStatusFields s).trace = s.trace := rfl
@[simp] theorem clearStatusFields_busLog (s : State) : (clearStatusFields s).busLog = s.busLog := rfl
@[simp] theorem clearStatusFields_inputs (s : State) : (clearStatusFields s).inputs = s.inputs := rfl
@[simp] theorem clearStatusFields_port (s : State) : (clearStatusFields s).port = s.port := rfl
@[simp] theorem clearStatusFields_draws (s : State) : (clearStatusFields s).draws = s.draws := rfl

@[simp] theorem storePk_cfg (v : Word) (s : State) : (storePk v s).cfg = s.cfg := rfl
@[simp] theorem storePk_result (v : Word) (s : State) : (storePk v s).result = s.result := rfl
@[simp] theorem storePk_crcOk (v : Word) (s : State) : (storePk v s).crcOk = s.crcOk := rfl
@[simp] theorem storePk_rxKind (v : Word) (s : State) : (storePk v s).rxKind = s.rxKind := rfl
@[simp] theorem storePk_xferFail (v : Word) (s : State) : (storePk v s).xferFail = s.xferFail := rfl
@[simp] theorem storePk_cmdRejected (v : Word) (s : State) : (storePk v s).cmdRejected = s.cmdRejected := rfl
@[simp] theorem storePk_werr (v : Word) (s : State) : (storePk v s).werr = s.werr := rfl
@[simp] theorem storePk_crcAcc (v : Word) (s : State) : (storePk v s).crcAcc = s.crcAcc := rfl
@[simp] theorem storePk_pk (v : Word) (s : State) : (storePk v s).pk = v := rfl
@[simp] theorem storePk_version (v : Word) (s : State) : (storePk v s).version = s.version := rfl
@[simp] theorem storePk_outerBudget (v : Word) (s : State) : (storePk v s).outerBudget = s.outerBudget := rfl
@[simp] theorem storePk_innerBudget (v : Word) (s : State) : (storePk v s).innerBudget = s.innerBudget := rfl
@[simp] theorem storePk_readyCost (v : Word) (s : State) : (storePk v s).readyCost = s.readyCost := rfl
@[simp] theorem storePk_minFw (v : Word) (s : State) : (storePk v s).minFw = s.minFw := rfl
@[simp] theorem storePk_outerRemain (v : Word) (s : State) : (storePk v s).outerRemain = s.outerRemain := rfl
@[simp] theorem storePk_innerCount (v : Word) (s : State) : (storePk v s).innerCount = s.innerCount := rfl
@[simp] theorem storePk_attempt (v : Word) (s : State) : (storePk v s).attempt = s.attempt := rfl
@[simp] theorem storePk_opcode (v : Word) (s : State) : (storePk v s).opcode = s.opcode := rfl
@[simp] theorem storePk_param (v : Word) (s : State) : (storePk v s).param = s.param := rfl
@[simp] theorem storePk_tx (v : Word) (s : State) : (storePk v s).tx = s.tx := rfl
@[simp] theorem storePk_rx (v : Word) (s : State) : (storePk v s).rx = s.rx := rfl
@[simp] theorem storePk_pset (v : Word) (s : State) : (storePk v s).pset = s.pset := rfl
@[simp] theorem storePk_estate (v : Word) (s : State) : (storePk v s).estate = s.estate := rfl
@[simp] theorem storePk_eop (v : Word) (s : State) : (storePk v s).eop = s.eop := rfl
@[simp] theorem storePk_hsRes (v : Word) (s : State) : (storePk v s).hsRes = s.hsRes := rfl
@[simp] theorem storePk_trace (v : Word) (s : State) : (storePk v s).trace = s.trace := rfl
@[simp] theorem storePk_busLog (v : Word) (s : State) : (storePk v s).busLog = s.busLog := rfl
@[simp] theorem storePk_inputs (v : Word) (s : State) : (storePk v s).inputs = s.inputs := rfl
@[simp] theorem storePk_port (v : Word) (s : State) : (storePk v s).port = s.port := rfl
@[simp] theorem storePk_draws (v : Word) (s : State) : (storePk v s).draws = s.draws := rfl

@[simp] theorem goto_cfg (e : EState) (s : State) : (goto e s).cfg = s.cfg := rfl
@[simp] theorem goto_result (e : EState) (s : State) : (goto e s).result = s.result := rfl
@[simp] theorem goto_crcOk (e : EState) (s : State) : (goto e s).crcOk = s.crcOk := rfl
@[simp] theorem goto_rxKind (e : EState) (s : State) : (goto e s).rxKind = s.rxKind := rfl
@[simp] theorem goto_xferFail (e : EState) (s : State) : (goto e s).xferFail = s.xferFail := rfl
@[simp] theorem goto_cmdRejected (e : EState) (s : State) : (goto e s).cmdRejected = s.cmdRejected := rfl
@[simp] theorem goto_werr (e : EState) (s : State) : (goto e s).werr = s.werr := rfl
@[simp] theorem goto_crcAcc (e : EState) (s : State) : (goto e s).crcAcc = s.crcAcc := rfl
@[simp] theorem goto_pk (e : EState) (s : State) : (goto e s).pk = s.pk := rfl
@[simp] theorem goto_version (e : EState) (s : State) : (goto e s).version = s.version := rfl
@[simp] theorem goto_outerBudget (e : EState) (s : State) : (goto e s).outerBudget = s.outerBudget := rfl
@[simp] theorem goto_innerBudget (e : EState) (s : State) : (goto e s).innerBudget = s.innerBudget := rfl
@[simp] theorem goto_readyCost (e : EState) (s : State) : (goto e s).readyCost = s.readyCost := rfl
@[simp] theorem goto_minFw (e : EState) (s : State) : (goto e s).minFw = s.minFw := rfl
@[simp] theorem goto_outerRemain (e : EState) (s : State) : (goto e s).outerRemain = s.outerRemain := rfl
@[simp] theorem goto_innerCount (e : EState) (s : State) : (goto e s).innerCount = s.innerCount := rfl
@[simp] theorem goto_attempt (e : EState) (s : State) : (goto e s).attempt = s.attempt := rfl
@[simp] theorem goto_opcode (e : EState) (s : State) : (goto e s).opcode = s.opcode := rfl
@[simp] theorem goto_param (e : EState) (s : State) : (goto e s).param = s.param := rfl
@[simp] theorem goto_tx (e : EState) (s : State) : (goto e s).tx = s.tx := rfl
@[simp] theorem goto_rx (e : EState) (s : State) : (goto e s).rx = s.rx := rfl
@[simp] theorem goto_pset (e : EState) (s : State) : (goto e s).pset = s.pset := rfl
@[simp] theorem goto_estate (e : EState) (s : State) : (goto e s).estate = e := rfl
@[simp] theorem goto_eop (e : EState) (s : State) : (goto e s).eop = s.eop := rfl
@[simp] theorem goto_hsRes (e : EState) (s : State) : (goto e s).hsRes = s.hsRes := rfl
@[simp] theorem goto_trace (e : EState) (s : State) : (goto e s).trace = s.trace := rfl
@[simp] theorem goto_busLog (e : EState) (s : State) : (goto e s).busLog = s.busLog := rfl
@[simp] theorem goto_inputs (e : EState) (s : State) : (goto e s).inputs = s.inputs := rfl
@[simp] theorem goto_port (e : EState) (s : State) : (goto e s).port = s.port := rfl
@[simp] theorem goto_draws (e : EState) (s : State) : (goto e s).draws = s.draws := rfl

@[simp] theorem emit_cfg (e : PortEvent) (s : State) : (emit e s).cfg = s.cfg := rfl
@[simp] theorem emit_result (e : PortEvent) (s : State) : (emit e s).result = s.result := rfl
@[simp] theorem emit_crcOk (e : PortEvent) (s : State) : (emit e s).crcOk = s.crcOk := rfl
@[simp] theorem emit_rxKind (e : PortEvent) (s : State) : (emit e s).rxKind = s.rxKind := rfl
@[simp] theorem emit_xferFail (e : PortEvent) (s : State) : (emit e s).xferFail = s.xferFail := rfl
@[simp] theorem emit_cmdRejected (e : PortEvent) (s : State) : (emit e s).cmdRejected = s.cmdRejected := rfl
@[simp] theorem emit_werr (e : PortEvent) (s : State) : (emit e s).werr = s.werr := rfl
@[simp] theorem emit_crcAcc (e : PortEvent) (s : State) : (emit e s).crcAcc = s.crcAcc := rfl
@[simp] theorem emit_pk (e : PortEvent) (s : State) : (emit e s).pk = s.pk := rfl
@[simp] theorem emit_version (e : PortEvent) (s : State) : (emit e s).version = s.version := rfl
@[simp] theorem emit_outerBudget (e : PortEvent) (s : State) : (emit e s).outerBudget = s.outerBudget := rfl
@[simp] theorem emit_innerBudget (e : PortEvent) (s : State) : (emit e s).innerBudget = s.innerBudget := rfl
@[simp] theorem emit_readyCost (e : PortEvent) (s : State) : (emit e s).readyCost = s.readyCost := rfl
@[simp] theorem emit_minFw (e : PortEvent) (s : State) : (emit e s).minFw = s.minFw := rfl
@[simp] theorem emit_outerRemain (e : PortEvent) (s : State) : (emit e s).outerRemain = s.outerRemain := rfl
@[simp] theorem emit_innerCount (e : PortEvent) (s : State) : (emit e s).innerCount = s.innerCount := rfl
@[simp] theorem emit_attempt (e : PortEvent) (s : State) : (emit e s).attempt = s.attempt := rfl
@[simp] theorem emit_opcode (e : PortEvent) (s : State) : (emit e s).opcode = s.opcode := rfl
@[simp] theorem emit_param (e : PortEvent) (s : State) : (emit e s).param = s.param := rfl
@[simp] theorem emit_tx (e : PortEvent) (s : State) : (emit e s).tx = s.tx := rfl
@[simp] theorem emit_rx (e : PortEvent) (s : State) : (emit e s).rx = s.rx := rfl
@[simp] theorem emit_pset (e : PortEvent) (s : State) : (emit e s).pset = s.pset := rfl
@[simp] theorem emit_estate (e : PortEvent) (s : State) : (emit e s).estate = s.estate := rfl
@[simp] theorem emit_eop (e : PortEvent) (s : State) : (emit e s).eop = s.eop := rfl
@[simp] theorem emit_hsRes (e : PortEvent) (s : State) : (emit e s).hsRes = s.hsRes := rfl
@[simp] theorem emit_trace (e : PortEvent) (s : State) : (emit e s).trace = s.trace ++ [e] := rfl
@[simp] theorem emit_busLog (e : PortEvent) (s : State) : (emit e s).busLog = s.busLog := rfl
@[simp] theorem emit_inputs (e : PortEvent) (s : State) : (emit e s).inputs = s.inputs := rfl
@[simp] theorem emit_port (e : PortEvent) (s : State) : (emit e s).port = s.port := rfl
@[simp] theorem emit_draws (e : PortEvent) (s : State) : (emit e s).draws = s.draws := rfl

@[simp] theorem loadProbe_cfg (o : Word) (p : Params) (s : State) : (loadProbe o p s).cfg = s.cfg := rfl
@[simp] theorem loadProbe_result (o : Word) (p : Params) (s : State) : (loadProbe o p s).result = s.result := rfl
@[simp] theorem loadProbe_crcOk (o : Word) (p : Params) (s : State) : (loadProbe o p s).crcOk = s.crcOk := rfl
@[simp] theorem loadProbe_rxKind (o : Word) (p : Params) (s : State) : (loadProbe o p s).rxKind = s.rxKind := rfl
@[simp] theorem loadProbe_xferFail (o : Word) (p : Params) (s : State) : (loadProbe o p s).xferFail = s.xferFail := rfl
@[simp] theorem loadProbe_cmdRejected (o : Word) (p : Params) (s : State) : (loadProbe o p s).cmdRejected = s.cmdRejected := rfl
@[simp] theorem loadProbe_werr (o : Word) (p : Params) (s : State) : (loadProbe o p s).werr = s.werr := rfl
@[simp] theorem loadProbe_crcAcc (o : Word) (p : Params) (s : State) : (loadProbe o p s).crcAcc = s.crcAcc := rfl
@[simp] theorem loadProbe_pk (o : Word) (p : Params) (s : State) : (loadProbe o p s).pk = s.pk := rfl
@[simp] theorem loadProbe_version (o : Word) (p : Params) (s : State) : (loadProbe o p s).version = s.version := rfl
@[simp] theorem loadProbe_outerBudget (o : Word) (p : Params) (s : State) : (loadProbe o p s).outerBudget = s.outerBudget := rfl
@[simp] theorem loadProbe_innerBudget (o : Word) (p : Params) (s : State) : (loadProbe o p s).innerBudget = s.innerBudget := rfl
@[simp] theorem loadProbe_readyCost (o : Word) (p : Params) (s : State) : (loadProbe o p s).readyCost = s.readyCost := rfl
@[simp] theorem loadProbe_minFw (o : Word) (p : Params) (s : State) : (loadProbe o p s).minFw = s.minFw := rfl
@[simp] theorem loadProbe_outerRemain (o : Word) (p : Params) (s : State) : (loadProbe o p s).outerRemain = s.outerRemain := rfl
@[simp] theorem loadProbe_innerCount (o : Word) (p : Params) (s : State) : (loadProbe o p s).innerCount = s.innerCount := rfl
@[simp] theorem loadProbe_attempt (o : Word) (p : Params) (s : State) : (loadProbe o p s).attempt = s.attempt := rfl
@[simp] theorem loadProbe_opcode (o : Word) (p : Params) (s : State) : (loadProbe o p s).opcode = s.opcode := rfl
@[simp] theorem loadProbe_param (o : Word) (p : Params) (s : State) : (loadProbe o p s).param = s.param := rfl
@[simp] theorem loadProbe_tx (o : Word) (p : Params) (s : State) : (loadProbe o p s).tx = encodeFrame s.cfg o p := rfl
@[simp] theorem loadProbe_rx (o : Word) (p : Params) (s : State) : (loadProbe o p s).rx = s.rx := rfl
@[simp] theorem loadProbe_pset (o : Word) (p : Params) (s : State) : (loadProbe o p s).pset = s.pset := rfl
@[simp] theorem loadProbe_estate (o : Word) (p : Params) (s : State) : (loadProbe o p s).estate = s.estate := rfl
@[simp] theorem loadProbe_eop (o : Word) (p : Params) (s : State) : (loadProbe o p s).eop = s.eop := rfl
@[simp] theorem loadProbe_hsRes (o : Word) (p : Params) (s : State) : (loadProbe o p s).hsRes = s.hsRes := rfl
@[simp] theorem loadProbe_trace (o : Word) (p : Params) (s : State) : (loadProbe o p s).trace = s.trace := rfl
@[simp] theorem loadProbe_busLog (o : Word) (p : Params) (s : State) : (loadProbe o p s).busLog = s.busLog := rfl
@[simp] theorem loadProbe_inputs (o : Word) (p : Params) (s : State) : (loadProbe o p s).inputs = s.inputs := rfl
@[simp] theorem loadProbe_port (o : Word) (p : Params) (s : State) : (loadProbe o p s).port = s.port := rfl
@[simp] theorem loadProbe_draws (o : Word) (p : Params) (s : State) : (loadProbe o p s).draws = s.draws := rfl

@[simp] theorem beginLong_cfg (op : EOp) (s : State) : (beginLong op s).cfg = s.cfg := rfl
@[simp] theorem beginLong_result (op : EOp) (s : State) : (beginLong op s).result = .none := rfl
@[simp] theorem beginLong_crcOk (op : EOp) (s : State) : (beginLong op s).crcOk = s.crcOk := rfl
@[simp] theorem beginLong_rxKind (op : EOp) (s : State) : (beginLong op s).rxKind = s.rxKind := rfl
@[simp] theorem beginLong_xferFail (op : EOp) (s : State) : (beginLong op s).xferFail = s.xferFail := rfl
@[simp] theorem beginLong_cmdRejected (op : EOp) (s : State) : (beginLong op s).cmdRejected = s.cmdRejected := rfl
@[simp] theorem beginLong_werr (op : EOp) (s : State) : (beginLong op s).werr = s.werr := rfl
@[simp] theorem beginLong_crcAcc (op : EOp) (s : State) : (beginLong op s).crcAcc = s.crcAcc := rfl
@[simp] theorem beginLong_pk (op : EOp) (s : State) : (beginLong op s).pk = s.pk := rfl
@[simp] theorem beginLong_version (op : EOp) (s : State) : (beginLong op s).version = s.version := rfl
@[simp] theorem beginLong_outerBudget (op : EOp) (s : State) : (beginLong op s).outerBudget = s.outerBudget := rfl
@[simp] theorem beginLong_innerBudget (op : EOp) (s : State) : (beginLong op s).innerBudget = s.innerBudget := rfl
@[simp] theorem beginLong_readyCost (op : EOp) (s : State) : (beginLong op s).readyCost = s.readyCost := rfl
@[simp] theorem beginLong_minFw (op : EOp) (s : State) : (beginLong op s).minFw = s.minFw := rfl
@[simp] theorem beginLong_outerRemain (op : EOp) (s : State) : (beginLong op s).outerRemain = s.outerRemain := rfl
@[simp] theorem beginLong_innerCount (op : EOp) (s : State) : (beginLong op s).innerCount = s.innerCount := rfl
@[simp] theorem beginLong_attempt (op : EOp) (s : State) : (beginLong op s).attempt = 0#32 := rfl
@[simp] theorem beginLong_opcode (op : EOp) (s : State) : (beginLong op s).opcode = s.opcode := rfl
@[simp] theorem beginLong_param (op : EOp) (s : State) : (beginLong op s).param = s.param := rfl
@[simp] theorem beginLong_tx (op : EOp) (s : State) : (beginLong op s).tx = s.tx := rfl
@[simp] theorem beginLong_rx (op : EOp) (s : State) : (beginLong op s).rx = s.rx := rfl
@[simp] theorem beginLong_pset (op : EOp) (s : State) : (beginLong op s).pset = s.pset := rfl
@[simp] theorem beginLong_estate (op : EOp) (s : State) : (beginLong op s).estate = s.estate := rfl
@[simp] theorem beginLong_eop (op : EOp) (s : State) : (beginLong op s).eop = op := rfl
@[simp] theorem beginLong_hsRes (op : EOp) (s : State) : (beginLong op s).hsRes = s.hsRes := rfl
@[simp] theorem beginLong_trace (op : EOp) (s : State) : (beginLong op s).trace = s.trace := rfl
@[simp] theorem beginLong_busLog (op : EOp) (s : State) : (beginLong op s).busLog = s.busLog := rfl
@[simp] theorem beginLong_inputs (op : EOp) (s : State) : (beginLong op s).inputs = s.inputs := rfl
@[simp] theorem beginLong_port (op : EOp) (s : State) : (beginLong op s).port = s.port := rfl
@[simp] theorem beginLong_draws (op : EOp) (s : State) : (beginLong op s).draws = s.draws := rfl

@[simp] theorem endLong_cfg (r : ResultCode) (s : State) : (endLong r s).cfg = s.cfg := rfl
@[simp] theorem endLong_result (r : ResultCode) (s : State) : (endLong r s).result = r := rfl
@[simp] theorem endLong_crcOk (r : ResultCode) (s : State) : (endLong r s).crcOk = s.crcOk := rfl
@[simp] theorem endLong_rxKind (r : ResultCode) (s : State) : (endLong r s).rxKind = s.rxKind := rfl
@[simp] theorem endLong_xferFail (r : ResultCode) (s : State) : (endLong r s).xferFail = s.xferFail := rfl
@[simp] theorem endLong_cmdRejected (r : ResultCode) (s : State) : (endLong r s).cmdRejected = s.cmdRejected := rfl
@[simp] theorem endLong_werr (r : ResultCode) (s : State) : (endLong r s).werr = s.werr := rfl
@[simp] theorem endLong_crcAcc (r : ResultCode) (s : State) : (endLong r s).crcAcc = s.crcAcc := rfl
@[simp] theorem endLong_pk (r : ResultCode) (s : State) : (endLong r s).pk = s.pk := rfl
@[simp] theorem endLong_version (r : ResultCode) (s : State) : (endLong r s).version = s.version := rfl
@[simp] theorem endLong_outerBudget (r : ResultCode) (s : State) : (endLong r s).outerBudget = s.outerBudget := rfl
@[simp] theorem endLong_innerBudget (r : ResultCode) (s : State) : (endLong r s).innerBudget = s.innerBudget := rfl
@[simp] theorem endLong_readyCost (r : ResultCode) (s : State) : (endLong r s).readyCost = s.readyCost := rfl
@[simp] theorem endLong_minFw (r : ResultCode) (s : State) : (endLong r s).minFw = s.minFw := rfl
@[simp] theorem endLong_outerRemain (r : ResultCode) (s : State) : (endLong r s).outerRemain = s.outerRemain := rfl
@[simp] theorem endLong_innerCount (r : ResultCode) (s : State) : (endLong r s).innerCount = s.innerCount := rfl
@[simp] theorem endLong_attempt (r : ResultCode) (s : State) : (endLong r s).attempt = s.attempt := rfl
@[simp] theorem endLong_opcode (r : ResultCode) (s : State) : (endLong r s).opcode = s.opcode := rfl
@[simp] theorem endLong_param (r : ResultCode) (s : State) : (endLong r s).param = s.param := rfl
@[simp] theorem endLong_tx (r : ResultCode) (s : State) : (endLong r s).tx = s.tx := rfl
@[simp] theorem endLong_rx (r : ResultCode) (s : State) : (endLong r s).rx = s.rx := rfl
@[simp] theorem endLong_pset (r : ResultCode) (s : State) : (endLong r s).pset = s.pset := rfl
@[simp] theorem endLong_estate (r : ResultCode) (s : State) : (endLong r s).estate = .idle := rfl
@[simp] theorem endLong_eop (r : ResultCode) (s : State) : (endLong r s).eop = .none := rfl
@[simp] theorem endLong_hsRes (r : ResultCode) (s : State) : (endLong r s).hsRes = s.hsRes := rfl
@[simp] theorem endLong_trace (r : ResultCode) (s : State) : (endLong r s).trace = s.trace := rfl
@[simp] theorem endLong_busLog (r : ResultCode) (s : State) : (endLong r s).busLog = s.busLog := rfl
@[simp] theorem endLong_inputs (r : ResultCode) (s : State) : (endLong r s).inputs = s.inputs := rfl
@[simp] theorem endLong_port (r : ResultCode) (s : State) : (endLong r s).port = s.port := rfl
@[simp] theorem endLong_draws (r : ResultCode) (s : State) : (endLong r s).draws = s.draws := rfl

@[simp] theorem hsBegin_cfg (s : State) : (hsBegin s).cfg = s.cfg := rfl
@[simp] theorem hsBegin_result (s : State) : (hsBegin s).result = s.result := rfl
@[simp] theorem hsBegin_crcOk (s : State) : (hsBegin s).crcOk = s.crcOk := rfl
@[simp] theorem hsBegin_rxKind (s : State) : (hsBegin s).rxKind = s.rxKind := rfl
@[simp] theorem hsBegin_xferFail (s : State) : (hsBegin s).xferFail = s.xferFail := rfl
@[simp] theorem hsBegin_cmdRejected (s : State) : (hsBegin s).cmdRejected = s.cmdRejected := rfl
@[simp] theorem hsBegin_werr (s : State) : (hsBegin s).werr = s.werr := rfl
@[simp] theorem hsBegin_crcAcc (s : State) : (hsBegin s).crcAcc = s.crcAcc := rfl
@[simp] theorem hsBegin_pk (s : State) : (hsBegin s).pk = s.pk := rfl
@[simp] theorem hsBegin_version (s : State) : (hsBegin s).version = s.version := rfl
@[simp] theorem hsBegin_outerBudget (s : State) : (hsBegin s).outerBudget = s.outerBudget := rfl
@[simp] theorem hsBegin_innerBudget (s : State) : (hsBegin s).innerBudget = s.innerBudget := rfl
@[simp] theorem hsBegin_readyCost (s : State) : (hsBegin s).readyCost = s.readyCost := rfl
@[simp] theorem hsBegin_minFw (s : State) : (hsBegin s).minFw = s.minFw := rfl
@[simp] theorem hsBegin_outerRemain (s : State) : (hsBegin s).outerRemain = s.outerBudget := rfl
@[simp] theorem hsBegin_innerCount (s : State) : (hsBegin s).innerCount = 0#32 := rfl
@[simp] theorem hsBegin_attempt (s : State) : (hsBegin s).attempt = s.attempt := rfl
@[simp] theorem hsBegin_opcode (s : State) : (hsBegin s).opcode = s.opcode := rfl
@[simp] theorem hsBegin_param (s : State) : (hsBegin s).param = s.param := rfl
@[simp] theorem hsBegin_tx (s : State) : (hsBegin s).tx = s.tx := rfl
@[simp] theorem hsBegin_rx (s : State) : (hsBegin s).rx = s.rx := rfl
@[simp] theorem hsBegin_pset (s : State) : (hsBegin s).pset = s.pset := rfl
@[simp] theorem hsBegin_estate (s : State) : (hsBegin s).estate = .hsOuterCheck := rfl
@[simp] theorem hsBegin_eop (s : State) : (hsBegin s).eop = s.eop := rfl
@[simp] theorem hsBegin_hsRes (s : State) : (hsBegin s).hsRes = s.hsRes := rfl
@[simp] theorem hsBegin_trace (s : State) : (hsBegin s).trace = s.trace := rfl
@[simp] theorem hsBegin_busLog (s : State) : (hsBegin s).busLog = s.busLog := rfl
@[simp] theorem hsBegin_inputs (s : State) : (hsBegin s).inputs = s.inputs := rfl
@[simp] theorem hsBegin_port (s : State) : (hsBegin s).port = s.port := rfl
@[simp] theorem hsBegin_draws (s : State) : (hsBegin s).draws = s.draws := rfl

@[simp] theorem schedule_cfg (i : Input) (s : State) : (schedule i s).cfg = s.cfg := rfl
@[simp] theorem schedule_result (i : Input) (s : State) : (schedule i s).result = s.result := rfl
@[simp] theorem schedule_crcOk (i : Input) (s : State) : (schedule i s).crcOk = s.crcOk := rfl
@[simp] theorem schedule_rxKind (i : Input) (s : State) : (schedule i s).rxKind = s.rxKind := rfl
@[simp] theorem schedule_xferFail (i : Input) (s : State) : (schedule i s).xferFail = s.xferFail := rfl
@[simp] theorem schedule_cmdRejected (i : Input) (s : State) : (schedule i s).cmdRejected = s.cmdRejected := rfl
@[simp] theorem schedule_werr (i : Input) (s : State) : (schedule i s).werr = s.werr := rfl
@[simp] theorem schedule_crcAcc (i : Input) (s : State) : (schedule i s).crcAcc = s.crcAcc := rfl
@[simp] theorem schedule_pk (i : Input) (s : State) : (schedule i s).pk = s.pk := rfl
@[simp] theorem schedule_version (i : Input) (s : State) : (schedule i s).version = s.version := rfl
@[simp] theorem schedule_outerBudget (i : Input) (s : State) : (schedule i s).outerBudget = s.outerBudget := rfl
@[simp] theorem schedule_innerBudget (i : Input) (s : State) : (schedule i s).innerBudget = s.innerBudget := rfl
@[simp] theorem schedule_readyCost (i : Input) (s : State) : (schedule i s).readyCost = s.readyCost := rfl
@[simp] theorem schedule_minFw (i : Input) (s : State) : (schedule i s).minFw = s.minFw := rfl
@[simp] theorem schedule_outerRemain (i : Input) (s : State) : (schedule i s).outerRemain = s.outerRemain := rfl
@[simp] theorem schedule_innerCount (i : Input) (s : State) : (schedule i s).innerCount = s.innerCount := rfl
@[simp] theorem schedule_attempt (i : Input) (s : State) : (schedule i s).attempt = s.attempt := rfl
@[simp] theorem schedule_opcode (i : Input) (s : State) : (schedule i s).opcode = s.opcode := rfl
@[simp] theorem schedule_param (i : Input) (s : State) : (schedule i s).param = s.param := rfl
@[simp] theorem schedule_tx (i : Input) (s : State) : (schedule i s).tx = s.tx := rfl
@[simp] theorem schedule_rx (i : Input) (s : State) : (schedule i s).rx = s.rx := rfl
@[simp] theorem schedule_pset (i : Input) (s : State) : (schedule i s).pset = s.pset := rfl
@[simp] theorem schedule_estate (i : Input) (s : State) : (schedule i s).estate = s.estate := rfl
@[simp] theorem schedule_eop (i : Input) (s : State) : (schedule i s).eop = s.eop := rfl
@[simp] theorem schedule_hsRes (i : Input) (s : State) : (schedule i s).hsRes = s.hsRes := rfl
@[simp] theorem schedule_trace (i : Input) (s : State) : (schedule i s).trace = s.trace := rfl
@[simp] theorem schedule_busLog (i : Input) (s : State) : (schedule i s).busLog = s.busLog := rfl
@[simp] theorem schedule_inputs (i : Input) (s : State) : (schedule i s).inputs = i :: s.inputs := rfl
@[simp] theorem schedule_port (i : Input) (s : State) : (schedule i s).port = s.port := rfl
@[simp] theorem schedule_draws (i : Input) (s : State) : (schedule i s).draws = s.draws := rfl

@[simp] theorem rxCheck_cfg (ref : Word) (ok : Bool) (s : State) : (rxCheck ref ok s).cfg = s.cfg := by
  unfold rxCheck; split <;> rfl
@[simp] theorem rxCheck_result (ref : Word) (ok : Bool) (s : State) : (rxCheck ref ok s).result = s.result := by
  unfold rxCheck; split <;> rfl
@[simp] theorem rxCheck_cmdRejected (ref : Word) (ok : Bool) (s : State) : (rxCheck ref ok s).cmdRejected = s.cmdRejected := by
  unfold rxCheck; split <;> rfl
@[simp] theorem rxCheck_werr (ref : Word) (ok : Bool) (s : State) : (rxCheck ref ok s).werr = s.werr := by
  unfold rxCheck; split <;> rfl
@[simp] theorem rxCheck_crcAcc (ref : Word) (ok : Bool) (s : State) : (rxCheck ref ok s).crcAcc = s.crcAcc := by
  unfold rxCheck; split <;> rfl
@[simp] theorem rxCheck_pk (ref : Word) (ok : Bool) (s : State) : (rxCheck ref ok s).pk = s.pk := by
  unfold rxCheck; split <;> rfl
@[simp] theorem rxCheck_version (ref : Word) (ok : Bool) (s : State) : (rxCheck ref ok s).version = s.version := by
  unfold rxCheck; split <;> rfl
@[simp] theorem rxCheck_outerBudget (ref : Word) (ok : Bool) (s : State) : (rxCheck ref ok s).outerBudget = s.outerBudget := by
  unfold rxCheck; split <;> rfl
@[simp] theorem rxCheck_innerBudget (ref : Word) (ok : Bool) (s : State) : (rxCheck ref ok s).innerBudget = s.innerBudget := by
  unfold rxCheck; split <;> rfl
@[simp] theorem rxCheck_readyCost (ref : Word) (ok : Bool) (s : State) : (rxCheck ref ok s).readyCost = s.readyCost := by
  unfold rxCheck; split <;> rfl
@[simp] theorem rxCheck_minFw (ref : Word) (ok : Bool) (s : State) : (rxCheck ref ok s).minFw = s.minFw := by
  unfold rxCheck; split <;> rfl
@[simp] theorem rxCheck_outerRemain (ref : Word) (ok : Bool) (s : State) : (rxCheck ref ok s).outerRemain = s.outerRemain := by
  unfold rxCheck; split <;> rfl
@[simp] theorem rxCheck_innerCount (ref : Word) (ok : Bool) (s : State) : (rxCheck ref ok s).innerCount = s.innerCount := by
  unfold rxCheck; split <;> rfl
@[simp] theorem rxCheck_attempt (ref : Word) (ok : Bool) (s : State) : (rxCheck ref ok s).attempt = s.attempt := by
  unfold rxCheck; split <;> rfl
@[simp] theorem rxCheck_opcode (ref : Word) (ok : Bool) (s : State) : (rxCheck ref ok s).opcode = s.opcode := by
  unfold rxCheck; split <;> rfl
@[simp] theorem rxCheck_param (ref : Word) (ok : Bool) (s : State) : (rxCheck ref ok s).param = s.param := by
  unfold rxCheck; split <;> rfl
@[simp] theorem rxCheck_tx (ref : Word) (ok : Bool) (s : State) : (rxCheck ref ok s).tx = s.tx := by
  unfold rxCheck; split <;> rfl
@[simp] theorem rxCheck_rx (ref : Word) (ok : Bool) (s : State) : (rxCheck ref ok s).rx = s.rx := by
  unfold rxCheck; split <;> rfl
@[simp] theorem rxCheck_pset (ref : Word) (ok : Bool) (s : State) : (rxCheck ref ok s).pset = s.pset := by
  unfold rxCheck; split <;> rfl
@[simp] theorem rxCheck_estate (ref : Word) (ok : Bool) (s : State) : (rxCheck ref ok s).estate = s.estate := by
  unfold rxCheck; split <;> rfl
@[simp] theorem rxCheck_eop (ref : Word) (ok : Bool) (s : State) : (rxCheck ref ok s).eop = s.eop := by
  unfold rxCheck; split <;> rfl
@[simp] theorem rxCheck_hsRes (ref : Word) (ok : Bool) (s : State) : (rxCheck ref ok s).hsRes = s.hsRes := by
  unfold rxCheck; split <;> rfl
@[simp] theorem rxCheck_trace (ref : Word) (ok : Bool) (s : State) : (rxCheck ref ok s).trace = s.trace := by
  unfold rxCheck; split <;> rfl
@[simp] theorem rxCheck_busLog (ref : Word) (ok : Bool) (s : State) : (rxCheck ref ok s).busLog = s.busLog := by
  unfold rxCheck; split <;> rfl
@[simp] theorem rxCheck_inputs (ref : Word) (ok : Bool) (s : State) : (rxCheck ref ok s).inputs = s.inputs := by
  unfold rxCheck; split <;> rfl
@[simp] theorem rxCheck_port (ref : Word) (ok : Bool) (s : State) : (rxCheck ref ok s).port = s.port := by
  unfold rxCheck; split <;> rfl
@[simp] theorem rxCheck_draws (ref : Word) (ok : Bool) (s : State) : (rxCheck ref ok s).draws = s.draws := by
  unfold rxCheck; split <;> rfl

@[simp] theorem receive_cfg (s : State) : (receive s).cfg = s.cfg := by
  unfold receive; split <;> rfl
@[simp] theorem receive_result (s : State) : (receive s).result = s.result := by
  unfold receive; split <;> rfl
@[simp] theorem receive_crcOk (s : State) : (receive s).crcOk = s.crcOk := by
  unfold receive; split <;> rfl
@[simp] theorem receive_rxKind (s : State) : (receive s).rxKind = s.rxKind := by
  unfold receive; split <;> rfl
@[simp] theorem receive_xferFail (s : State) : (receive s).xferFail = s.xferFail := by
  unfold receive; split <;> rfl
@[simp] theorem receive_cmdRejected (s : State) : (receive s).cmdRejected = s.cmdRejected := by
  unfold receive; split <;> rfl
@[simp] theorem receive_werr (s : State) : (receive s).werr = s.werr := by
  unfold receive; split <;> rfl
@[simp] theorem receive_crcAcc (s : State) : (receive s).crcAcc = s.crcAcc := by
  unfold receive; split <;> rfl
@[simp] theorem receive_pk (s : State) : (receive s).pk = s.pk := by
  unfold receive; split <;> rfl
@[simp] theorem receive_version (s : State) : (receive s).version = s.version := by
  unfold receive; split <;> rfl
@[simp] theorem receive_outerBudget (s : State) : (receive s).outerBudget = s.outerBudget := by
  unfold receive; split <;> rfl
@[simp] theorem receive_innerBudget (s : State) : (receive s).innerBudget = s.innerBudget := by
  unfold receive; split <;> rfl
@[simp] theorem receive_readyCost (s : State) : (receive s).readyCost = s.readyCost := by
  unfold receive; split <;> rfl
@[simp] theorem receive_minFw (s : State) : (receive s).minFw = s.minFw := by
  unfold receive; split <;> rfl
@[simp] theorem receive_outerRemain (s : State) : (receive s).outerRemain = s.outerRemain := by
  unfold receive; split <;> rfl
@[simp] theorem receive_innerCount (s : State) : (receive s).innerCount = s.innerCount := by
  unfold receive; split <;> rfl
@[simp] theorem receive_attempt (s : State) : (receive s).attempt = s.attempt := by
  unfold receive; split <;> rfl
@[simp] theorem receive_opcode (s : State) : (receive s).opcode = s.opcode := by
  unfold receive; split <;> rfl
@[simp] theorem receive_param (s : State) : (receive s).param = s.param := by
  unfold receive; split <;> rfl
@[simp] theorem receive_tx (s : State) : (receive s).tx = s.tx := by
  unfold receive; split <;> rfl
@[simp] theorem receive_pset (s : State) : (receive s).pset = s.pset := by
  unfold receive; split <;> rfl
@[simp] theorem receive_estate (s : State) : (receive s).estate = s.estate := by
  unfold receive; split <;> rfl
@[simp] theorem receive_eop (s : State) : (receive s).eop = s.eop := by
  unfold receive; split <;> rfl
@[simp] theorem receive_hsRes (s : State) : (receive s).hsRes = s.hsRes := by
  unfold receive; split <;> rfl
@[simp] theorem receive_trace (s : State) : (receive s).trace = s.trace := by
  unfold receive; split <;> rfl
@[simp] theorem receive_busLog (s : State) : (receive s).busLog = s.busLog := by
  unfold receive; split <;> rfl
@[simp] theorem receive_inputs (s : State) : (receive s).inputs = s.inputs := by
  unfold receive; split <;> rfl
@[simp] theorem receive_port (s : State) : (receive s).port = s.port := by
  unfold receive; split <;> rfl

@[simp] theorem hsFinish_cfg (r : HsResult) (s : State) : (hsFinish r s).cfg = s.cfg := by
  unfold hsFinish; split <;> rfl
@[simp] theorem hsFinish_crcOk (r : HsResult) (s : State) : (hsFinish r s).crcOk = s.crcOk := by
  unfold hsFinish; split <;> rfl
@[simp] theorem hsFinish_rxKind (r : HsResult) (s : State) : (hsFinish r s).rxKind = s.rxKind := by
  unfold hsFinish; split <;> rfl
@[simp] theorem hsFinish_xferFail (r : HsResult) (s : State) : (hsFinish r s).xferFail = s.xferFail := by
  unfold hsFinish; split <;> rfl
@[simp] theorem hsFinish_cmdRejected (r : HsResult) (s : State) : (hsFinish r s).cmdRejected = s.cmdRejected := by
  unfold hsFinish; split <;> rfl
@[simp] theorem hsFinish_werr (r : HsResult) (s : State) : (hsFinish r s).werr = s.werr := by
  unfold hsFinish; split <;> rfl
@[simp] theorem hsFinish_crcAcc (r : HsResult) (s : State) : (hsFinish r s).crcAcc = s.crcAcc := by
  unfold hsFinish; split <;> rfl
@[simp] theorem hsFinish_pk (r : HsResult) (s : State) : (hsFinish r s).pk = s.pk := by
  unfold hsFinish; split <;> rfl
@[simp] theorem hsFinish_version (r : HsResult) (s : State) : (hsFinish r s).version = s.version := by
  unfold hsFinish; split <;> rfl
@[simp] theorem hsFinish_outerBudget (r : HsResult) (s : State) : (hsFinish r s).outerBudget = s.outerBudget := by
  unfold hsFinish; split <;> rfl
@[simp] theorem hsFinish_innerBudget (r : HsResult) (s : State) : (hsFinish r s).innerBudget = s.innerBudget := by
  unfold hsFinish; split <;> rfl
@[simp] theorem hsFinish_readyCost (r : HsResult) (s : State) : (hsFinish r s).readyCost = s.readyCost := by
  unfold hsFinish; split <;> rfl
@[simp] theorem hsFinish_minFw (r : HsResult) (s : State) : (hsFinish r s).minFw = s.minFw := by
  unfold hsFinish; split <;> rfl
@[simp] theorem hsFinish_outerRemain (r : HsResult) (s : State) : (hsFinish r s).outerRemain = s.outerRemain := by
  unfold hsFinish; split <;> rfl
@[simp] theorem hsFinish_innerCount (r : HsResult) (s : State) : (hsFinish r s).innerCount = s.innerCount := by
  unfold hsFinish; split <;> rfl
@[simp] theorem hsFinish_attempt (r : HsResult) (s : State) : (hsFinish r s).attempt = s.attempt := by
  unfold hsFinish; split <;> rfl
@[simp] theorem hsFinish_opcode (r : HsResult) (s : State) : (hsFinish r s).opcode = s.opcode := by
  unfold hsFinish; split <;> rfl
@[simp] theorem hsFinish_param (r : HsResult) (s : State) : (hsFinish r s).param = s.param := by
  unfold hsFinish; split <;> rfl
@[simp] theorem hsFinish_tx (r : HsResult) (s : State) : (hsFinish r s).tx = s.tx := by
  unfold hsFinish; split <;> rfl
@[simp] theorem hsFinish_rx (r : HsResult) (s : State) : (hsFinish r s).rx = s.rx := by
  unfold hsFinish; split <;> rfl
@[simp] theorem hsFinish_pset (r : HsResult) (s : State) : (hsFinish r s).pset = s.pset := by
  unfold hsFinish; split <;> rfl
@[simp] theorem hsFinish_trace (r : HsResult) (s : State) : (hsFinish r s).trace = s.trace := by
  unfold hsFinish; split <;> rfl
@[simp] theorem hsFinish_busLog (r : HsResult) (s : State) : (hsFinish r s).busLog = s.busLog := by
  unfold hsFinish; split <;> rfl
@[simp] theorem hsFinish_inputs (r : HsResult) (s : State) : (hsFinish r s).inputs = s.inputs := by
  unfold hsFinish; split <;> rfl
@[simp] theorem hsFinish_port (r : HsResult) (s : State) : (hsFinish r s).port = s.port := by
  unfold hsFinish; split <;> rfl
@[simp] theorem hsFinish_draws (r : HsResult) (s : State) : (hsFinish r s).draws = s.draws := by
  unfold hsFinish; split <;> rfl

end Sys2Proof.Machine
end

