-- ==== Sys2Proof/Laws/Ops.lean ====
section
/-! SUPPORT. What each shared operation can do, said once. -/

namespace Sys2Proof.Machine

open Sys2Proof

theorem busy_iff (s : State) : s.busy = true ↔ s.estate ≠ .idle := by simp [State.busy]

theorem not_busy_iff (s : State) : s.busy = false ↔ s.estate = .idle := by simp [State.busy]

/-- An access to a register the block instance has (R21). -/
theorem accessReg_present (r : Reg) (body : State → State) (s : State) (h : r.present s.cfg = true) :
    accessReg r body s = body s := by simp [accessReg, h]

/-- An access past the last PARAM, TX or RX word is one to a reserved offset (R21, R63). -/
theorem accessReg_absent (r : Reg) (body : State → State) (s : State) (h : r.present s.cfg = false) :
    accessReg r body s = raiseBusError r.offset s := by simp [accessReg, h]

/-- A read returns the value (R234). -/
theorem hostRead_present (r : Reg) (s : State) (h : r.present s.cfg = true) :
    hostRead r s = logBus (.read r.offset (regValue s r)) s := accessReg_present r _ s h

/-- A gated write while idle stores (R235). -/
theorem gatedWrite_idle (r : Reg) (v : Word) (s : State) (hp : r.present s.cfg = true) (h : s.estate = .idle) :
    gatedWrite r v s = logBus (.written r.offset v) (storeReg r v s) := by
  simp [gatedWrite, accessReg, hp, (not_busy_iff s).2 h]

/-- A gated write while busy is dropped with WERR (R54). -/
theorem gatedWrite_busy (r : Reg) (v : Word) (s : State) (hp : r.present s.cfg = true) (h : s.estate ≠ .idle) :
    gatedWrite r v s = logBus (.written r.offset v) (dropWrite s) := by
  simp [gatedWrite, accessReg, hp, (busy_iff s).2 h]

/-- A write of a read-only register is dropped (R236). -/
theorem readOnlyWrite_present (r : Reg) (v : Word) (s : State) (h : r.present s.cfg = true) :
    readOnlyWrite r v s = logBus (.written r.offset v) (dropWrite s) := accessReg_present r _ s h

/-- A frame has at least its opcode and its checksum (R82). -/
@[simp] theorem frameWords_ne_zero (cfg : Config) : cfg.frameWords ≠ 0 := Nat.succ_ne_zero _

@[simp] theorem frameWords_pos (cfg : Config) : 0 < cfg.frameWords := Nat.succ_pos _

/-- The words of a trimmed frame: those of the frame up to the checksum, and 0 past it (R11, R82). -/
@[simp] theorem trimFrame_getElem (cfg : Config) (f : Frame) (j : Nat) (hj : j < 13) :
    (trimFrame cfg f)[j] = if j < cfg.frameWords then f[j] else 0#32 := by simp [trimFrame]

theorem trimFrame_zero (cfg : Config) (f : Frame) : (trimFrame cfg f)[0] = f[0] := by
  simp [Config.frameWords]

/-- A frame that already ends at its checksum is its own trimming. -/
theorem trimFrame_eq (cfg : Config) (f : Frame) (h : ∀ j : Fin 13, cfg.frameWords ≤ j.val → f[j] = 0#32) :
    trimFrame cfg f = f := by
  apply Vector.ext
  intro j hj
  rw [trimFrame_getElem]
  split
  · rfl
  · rename_i hn
    exact (h ⟨j, hj⟩ (Nat.le_of_not_lt hn)).symm

@[simp] theorem trimFrame_trimFrame (cfg : Config) (f : Frame) : trimFrame cfg (trimFrame cfg f) = trimFrame cfg f := by
  apply Vector.ext
  intro j hj
  simp only [trimFrame_getElem]
  split <;> rfl

/-- The checksum covers words 0 to `N_P` only (R113). -/
@[simp] theorem crcFrame_trimFrame (cfg : Config) (f : Frame) : crcFrame cfg (trimFrame cfg f) = crcFrame cfg f := by
  unfold crcFrame crcWords
  congr 1
  apply List.ext_getElem
  · simp
  · intro j h1 h2
    have hj : j < cfg.frameWords := by
      simp [Config.crcWordCount] at h1
      simp [Config.frameWords]
      omega
    simp [hj]

/-- The checksum word of a frame is one of its words (R82). -/
theorem trimFrame_crcIndex (cfg : Config) (f : Frame) :
    (trimFrame cfg f)[cfg.crcIndex.val] = f[cfg.crcIndex.val] := by
  simp [Config.crcIndex, Config.frameWords]

/-- The check reads the words of the frame only (R117). -/
@[simp] theorem verifyFrame_trimFrame (cfg : Config) (f : Frame) :
    verifyFrame cfg (trimFrame cfg f) = verifyFrame cfg f := by
  unfold verifyFrame
  rw [crcFrame_trimFrame]
  exact congrArg (crcFrame cfg f == ·) (trimFrame_crcIndex cfg f)

/-- The classification reads word 0 only (R119). -/
@[simp] theorem rxKindOf_trimFrame (cfg : Config) (f : Frame) (ref : Word) :
    rxKindOf cfg (trimFrame cfg f) ref = rxKindOf cfg f ref := by
  unfold rxKindOf
  rw [trimFrame_zero]

/-- A command while idle performs its pseudocode (R232). -/
theorem issueCommand_idle (c : Command) (body : State → State) (s : State) (h : s.estate = .idle) :
    issueCommand c body s = logBus (.written 0x000 c.code) (body s) := by
  simp [issueCommand, (not_busy_iff s).2 h, Reg.offset]

/-- A command while busy is rejected (R233). -/
theorem issueCommand_busy (c : Command) (body : State → State) (s : State) (h : s.estate ≠ .idle) :
    issueCommand c body s = logBus (.written 0x000 c.code) (reject s) := by
  simp [issueCommand, (busy_iff s).2 h, Reg.offset]

/-- A transaction the environment completes enters the trace, and the step goes on (R161). -/
theorem transact_completes (e : PortEvent) (k : State → State) (s : State) (h : s.port.completes = true) :
    transact e k s = k (emit e s) := by simp [transact, h]

/-- A transaction the environment does not complete leaves everything as it was (R169). -/
theorem transact_waits (e : PortEvent) (k : State → State) (s : State) (h : s.port.completes = false) :
    transact e k s = s := by simp [transact, h]

/-- What a completed Exchange does before the check that follows it (R165, R166, R119). -/
theorem exchangeThen_completes (k : State → State) (s : State) (h : s.port.completes = true) :
    exchangeThen k s =
      k (rxCheck s.tx[0] s.port.ok
        (receive (emit (.exchange s.tx (if s.port.ok then some (replyFrame s) else none)) s))) := by
  simp [exchangeThen, transact, h]

theorem receive_ok (s : State) (h : s.port.ok = true) : receive s = { s with rx := replyFrame s } := by
  simp [receive, h]

theorem receive_fail (s : State) (h : s.port.ok = false) :
    receive s = { s with rx := drawFrame s.cfg s.draws, draws := s.draws + s.cfg.frameWords } := by simp [receive, h]

/-- `rx_check` after a successful transfer or for VERIFY (R119). -/
theorem rxCheck_ok (ref : Word) (s : State) :
    rxCheck ref true s =
      { s with xferFail := false, crcOk := verifyFrame s.cfg s.rx, rxKind := rxKindOf s.cfg s.rx ref } := rfl

/-- `rx_check` after a failed transfer (R119). -/
theorem rxCheck_fail (ref : Word) (s : State) :
    rxCheck ref false s = { s with xferFail := true, crcOk := false, rxKind := .other } := rfl

/-- The end of a plain handshake (R195). -/
theorem hsFinish_handshake (res : HsResult) (s : State) (h : s.eop = .handshake) :
    hsFinish res s = endLong res.toResult s := by simp [hsFinish, h]

/-- The end of a sequencer's handshake (R195). -/
theorem hsFinish_sequencer (res : HsResult) (s : State) (h : s.eop ≠ .handshake) :
    hsFinish res s = { s with hsRes := res, estate := .sqEval } := by
  unfold hsFinish
  split
  · contradiction
  · rfl
  · rfl
  · rfl

/-- A host access that decodes to a row runs it (R94). -/
theorem act_host_instr (a : Access) (i : Instr) (s : State) (h : decodeBus s.cfg a = .instr i) :
    act (.host a) s = exec i s := by
  simp [act, step, fetch, schedule, fetchHost, h]

/-- A host access that decodes to no row ends in BusError (R250). -/
theorem act_host_busError (a : Access) (c : BusErrorCause) (s : State) (h : decodeBus s.cfg a = .busError c) :
    act (.host a) s = .next (raiseBusError a.off s) := by
  simp [act, step, fetch, schedule, fetchHost, h]

/-- A host access outside the window is not decoded (R63). -/
theorem act_host_outside (a : Access) (s : State) (h : decodeBus s.cfg a = .outside) :
    act (.host a) s = .fault (.outsideWindow a.off) := by
  simp [act, step, fetch, schedule, fetchHost, h]

/-- Block reset is one step (R270). -/
theorem act_blockReset (s : State) : act .blockReset s = .next (blockReset s) := rfl

/-- An engine step in which no named wire opcode is handled is its microstate's rule. -/
theorem act_engine_plain (ans : EnvAnswer) (s : State) (h : wireWord { s with port := ans } = none) :
    act (.engine ans) s = .next (engineStep { s with port := ans }) := by
  simp [act, step, fetch, schedule, fetchEngine, h]

/-- A reply that carries the opcode already is the reply with that opcode. -/
theorem withReplyOpcode_self (op : Word) (s : State) (h : s.port.reply[0] = op) : withReplyOpcode op s = s := by
  subst h
  simp [withReplyOpcode]

/-- In IDLE, and in the other microstates that handle no FRAME word 0, an engine step looks at no wire opcode. -/
theorem wireWord_none (s : State) (h1 : s.estate ≠ .hsInnerSettle) (h2 : s.estate ≠ .hsOuterXfer)
    (h3 : s.estate ≠ .hsInnerXfer) : wireWord s = none := by
  unfold wireWord
  split <;> simp_all

end Sys2Proof.Machine
end

