-- ==== Sys2Proof/Laws/PerInstr.lean ====
section
/-! SUPPORT. Lemmas for every instruction, one per constructor of Instr. -/

namespace Sys2Proof.Laws

open Sys2Proof

/-- The word the encoder writes obeys its format: RES is 0 and OP a command code (R83, R84); OFF is aligned and listed
for N_P = 11, and DATA is 0 for a read (R21, R62, R81); a wire opcode is one of the seven (R87). -/
def EncodeForm.Statement (i : Instr) : Prop :=
  ∀ cfg : Config,
    match encode cfg i with
    | .cmd v => cmdWellFormed v = true
    | .access w => offsetListed 11 (accessOff w).toNat = true ∧ (accessDir w = .read → accessData w = 0#32)
    | .wire opc => opc ∈ cfg.opcodes

theorem EncodeForm.nop : EncodeForm.Statement .nop := fun _ => (by decide : cmdWellFormed 0#32 = true)
theorem EncodeForm.encode : EncodeForm.Statement .encode := fun _ => (by decide : cmdWellFormed 1#32 = true)
theorem EncodeForm.verify : EncodeForm.Statement .verify := fun _ => (by decide : cmdWellFormed 2#32 = true)
theorem EncodeForm.handshake : EncodeForm.Statement .handshake := fun _ => (by decide : cmdWellFormed 3#32 = true)
theorem EncodeForm.identify : EncodeForm.Statement .identify := fun _ => (by decide : cmdWellFormed 4#32 = true)
theorem EncodeForm.configure : EncodeForm.Statement .configure := fun _ => (by decide : cmdWellFormed 5#32 = true)
theorem EncodeForm.packPset : EncodeForm.Statement .packPset := fun _ => (by decide : cmdWellFormed 6#32 = true)
theorem EncodeForm.unpackPset : EncodeForm.Statement .unpackPset := fun _ => (by decide : cmdWellFormed 7#32 = true)
theorem EncodeForm.clearStatus : EncodeForm.Statement .clearStatus := fun _ => (by decide : cmdWellFormed 8#32 = true)
theorem EncodeForm.wrCtrl (data : Word) : EncodeForm.Statement (.wrCtrl data) := fun _ => write_form _ _ (by decide)
theorem EncodeForm.rdCtrl : EncodeForm.Statement .rdCtrl := fun _ => read_form _ (by decide)
theorem EncodeForm.rdStatus : EncodeForm.Statement .rdStatus := fun _ => read_form _ (by decide)
theorem EncodeForm.wrStatus (data : Word) : EncodeForm.Statement (.wrStatus data) := fun _ => write_form _ _ (by decide)
theorem EncodeForm.crcReset (data : Word) : EncodeForm.Statement (.crcReset data) := fun _ => write_form _ _ (by decide)
theorem EncodeForm.rdCrcCtrl : EncodeForm.Statement .rdCrcCtrl := fun _ => read_form _ (by decide)
theorem EncodeForm.crcFeed (data : Word) : EncodeForm.Statement (.crcFeed data) := fun _ => write_form _ _ (by decide)
theorem EncodeForm.crcRead : EncodeForm.Statement .crcRead := fun _ => read_form _ (by decide)
theorem EncodeForm.pkWrite (data : Word) : EncodeForm.Statement (.pkWrite data) := fun _ => write_form _ _ (by decide)
theorem EncodeForm.pkRead : EncodeForm.Statement .pkRead := fun _ => read_form _ (by decide)
theorem EncodeForm.pkHiWrite (data : Word) : EncodeForm.Statement (.pkHiWrite data) := fun _ => write_form _ _ (by decide)
theorem EncodeForm.pkHiRead : EncodeForm.Statement .pkHiRead := fun _ => read_form _ (by decide)
theorem EncodeForm.pkLoWrite (data : Word) : EncodeForm.Statement (.pkLoWrite data) := fun _ => write_form _ _ (by decide)
theorem EncodeForm.pkLoRead : EncodeForm.Statement .pkLoRead := fun _ => read_form _ (by decide)
theorem EncodeForm.rdVersion : EncodeForm.Statement .rdVersion := fun _ => read_form _ (by decide)
theorem EncodeForm.wrVersion (data : Word) : EncodeForm.Statement (.wrVersion data) := fun _ => write_form _ _ (by decide)
theorem EncodeForm.rdOuterBudget : EncodeForm.Statement .rdOuterBudget := fun _ => read_form _ (by decide)
theorem EncodeForm.wrOuterBudget (data : Word) : EncodeForm.Statement (.wrOuterBudget data) := fun _ => write_form _ _ (by decide)
theorem EncodeForm.rdInnerBudget : EncodeForm.Statement .rdInnerBudget := fun _ => read_form _ (by decide)
theorem EncodeForm.wrInnerBudget (data : Word) : EncodeForm.Statement (.wrInnerBudget data) := fun _ => write_form _ _ (by decide)
theorem EncodeForm.rdReadyCost : EncodeForm.Statement .rdReadyCost := fun _ => read_form _ (by decide)
theorem EncodeForm.wrReadyCost (data : Word) : EncodeForm.Statement (.wrReadyCost data) := fun _ => write_form _ _ (by decide)
theorem EncodeForm.rdMinFw : EncodeForm.Statement .rdMinFw := fun _ => read_form _ (by decide)
theorem EncodeForm.wrMinFw (data : Word) : EncodeForm.Statement (.wrMinFw data) := fun _ => write_form _ _ (by decide)
theorem EncodeForm.rdOuterRemain : EncodeForm.Statement .rdOuterRemain := fun _ => read_form _ (by decide)
theorem EncodeForm.wrOuterRemain (data : Word) : EncodeForm.Statement (.wrOuterRemain data) := fun _ => write_form _ _ (by decide)
theorem EncodeForm.rdInnerCount : EncodeForm.Statement .rdInnerCount := fun _ => read_form _ (by decide)
theorem EncodeForm.wrInnerCount (data : Word) : EncodeForm.Statement (.wrInnerCount data) := fun _ => write_form _ _ (by decide)
theorem EncodeForm.rdAttempt : EncodeForm.Statement .rdAttempt := fun _ => read_form _ (by decide)
theorem EncodeForm.wrAttempt (data : Word) : EncodeForm.Statement (.wrAttempt data) := fun _ => write_form _ _ (by decide)
theorem EncodeForm.rdOpcode : EncodeForm.Statement .rdOpcode := fun _ => read_form _ (by decide)
theorem EncodeForm.wrOpcode (data : Word) : EncodeForm.Statement (.wrOpcode data) := fun _ => write_form _ _ (by decide)
theorem EncodeForm.rdParam1 : EncodeForm.Statement .rdParam1 := fun _ => read_form _ (by decide)
theorem EncodeForm.wrParam1 (data : Word) : EncodeForm.Statement (.wrParam1 data) := fun _ => write_form _ _ (by decide)
theorem EncodeForm.rdParam2 : EncodeForm.Statement .rdParam2 := fun _ => read_form _ (by decide)
theorem EncodeForm.wrParam2 (data : Word) : EncodeForm.Statement (.wrParam2 data) := fun _ => write_form _ _ (by decide)
theorem EncodeForm.rdParam3 : EncodeForm.Statement .rdParam3 := fun _ => read_form _ (by decide)
theorem EncodeForm.wrParam3 (data : Word) : EncodeForm.Statement (.wrParam3 data) := fun _ => write_form _ _ (by decide)
theorem EncodeForm.rdParam4 : EncodeForm.Statement .rdParam4 := fun _ => read_form _ (by decide)
theorem EncodeForm.wrParam4 (data : Word) : EncodeForm.Statement (.wrParam4 data) := fun _ => write_form _ _ (by decide)
theorem EncodeForm.rdParam5 : EncodeForm.Statement .rdParam5 := fun _ => read_form _ (by decide)
theorem EncodeForm.wrParam5 (data : Word) : EncodeForm.Statement (.wrParam5 data) := fun _ => write_form _ _ (by decide)
theorem EncodeForm.rdParam6 : EncodeForm.Statement .rdParam6 := fun _ => read_form _ (by decide)
theorem EncodeForm.wrParam6 (data : Word) : EncodeForm.Statement (.wrParam6 data) := fun _ => write_form _ _ (by decide)
theorem EncodeForm.rdParam7 : EncodeForm.Statement .rdParam7 := fun _ => read_form _ (by decide)
theorem EncodeForm.wrParam7 (data : Word) : EncodeForm.Statement (.wrParam7 data) := fun _ => write_form _ _ (by decide)
theorem EncodeForm.rdParam8 : EncodeForm.Statement .rdParam8 := fun _ => read_form _ (by decide)
theorem EncodeForm.wrParam8 (data : Word) : EncodeForm.Statement (.wrParam8 data) := fun _ => write_form _ _ (by decide)
theorem EncodeForm.rdParam9 : EncodeForm.Statement .rdParam9 := fun _ => read_form _ (by decide)
theorem EncodeForm.wrParam9 (data : Word) : EncodeForm.Statement (.wrParam9 data) := fun _ => write_form _ _ (by decide)
theorem EncodeForm.rdParam10 : EncodeForm.Statement .rdParam10 := fun _ => read_form _ (by decide)
theorem EncodeForm.wrParam10 (data : Word) : EncodeForm.Statement (.wrParam10 data) := fun _ => write_form _ _ (by decide)
theorem EncodeForm.rdParam11 : EncodeForm.Statement .rdParam11 := fun _ => read_form _ (by decide)
theorem EncodeForm.wrParam11 (data : Word) : EncodeForm.Statement (.wrParam11 data) := fun _ => write_form _ _ (by decide)
theorem EncodeForm.rdTx0 : EncodeForm.Statement .rdTx0 := fun _ => read_form _ (by decide)
theorem EncodeForm.wrTx0 (data : Word) : EncodeForm.Statement (.wrTx0 data) := fun _ => write_form _ _ (by decide)
theorem EncodeForm.rdTx1 : EncodeForm.Statement .rdTx1 := fun _ => read_form _ (by decide)
theorem EncodeForm.wrTx1 (data : Word) : EncodeForm.Statement (.wrTx1 data) := fun _ => write_form _ _ (by decide)
theorem EncodeForm.rdTx2 : EncodeForm.Statement .rdTx2 := fun _ => read_form _ (by decide)
theorem EncodeForm.wrTx2 (data : Word) : EncodeForm.Statement (.wrTx2 data) := fun _ => write_form _ _ (by decide)
theorem EncodeForm.rdTx3 : EncodeForm.Statement .rdTx3 := fun _ => read_form _ (by decide)
theorem EncodeForm.wrTx3 (data : Word) : EncodeForm.Statement (.wrTx3 data) := fun _ => write_form _ _ (by decide)
theorem EncodeForm.rdTx4 : EncodeForm.Statement .rdTx4 := fun _ => read_form _ (by decide)
theorem EncodeForm.wrTx4 (data : Word) : EncodeForm.Statement (.wrTx4 data) := fun _ => write_form _ _ (by decide)
theorem EncodeForm.rdTx5 : EncodeForm.Statement .rdTx5 := fun _ => read_form _ (by decide)
theorem EncodeForm.wrTx5 (data : Word) : EncodeForm.Statement (.wrTx5 data) := fun _ => write_form _ _ (by decide)
theorem EncodeForm.rdTx6 : EncodeForm.Statement .rdTx6 := fun _ => read_form _ (by decide)
theorem EncodeForm.wrTx6 (data : Word) : EncodeForm.Statement (.wrTx6 data) := fun _ => write_form _ _ (by decide)
theorem EncodeForm.rdTx7 : EncodeForm.Statement .rdTx7 := fun _ => read_form _ (by decide)
theorem EncodeForm.wrTx7 (data : Word) : EncodeForm.Statement (.wrTx7 data) := fun _ => write_form _ _ (by decide)
theorem EncodeForm.rdTx8 : EncodeForm.Statement .rdTx8 := fun _ => read_form _ (by decide)
theorem EncodeForm.wrTx8 (data : Word) : EncodeForm.Statement (.wrTx8 data) := fun _ => write_form _ _ (by decide)
theorem EncodeForm.rdTx9 : EncodeForm.Statement .rdTx9 := fun _ => read_form _ (by decide)
theorem EncodeForm.wrTx9 (data : Word) : EncodeForm.Statement (.wrTx9 data) := fun _ => write_form _ _ (by decide)
theorem EncodeForm.rdTx10 : EncodeForm.Statement .rdTx10 := fun _ => read_form _ (by decide)
theorem EncodeForm.wrTx10 (data : Word) : EncodeForm.Statement (.wrTx10 data) := fun _ => write_form _ _ (by decide)
theorem EncodeForm.rdTx11 : EncodeForm.Statement .rdTx11 := fun _ => read_form _ (by decide)
theorem EncodeForm.wrTx11 (data : Word) : EncodeForm.Statement (.wrTx11 data) := fun _ => write_form _ _ (by decide)
theorem EncodeForm.rdTx12 : EncodeForm.Statement .rdTx12 := fun _ => read_form _ (by decide)
theorem EncodeForm.wrTx12 (data : Word) : EncodeForm.Statement (.wrTx12 data) := fun _ => write_form _ _ (by decide)
theorem EncodeForm.rdRx0 : EncodeForm.Statement .rdRx0 := fun _ => read_form _ (by decide)
theorem EncodeForm.wrRx0 (data : Word) : EncodeForm.Statement (.wrRx0 data) := fun _ => write_form _ _ (by decide)
theorem EncodeForm.rdRx1 : EncodeForm.Statement .rdRx1 := fun _ => read_form _ (by decide)
theorem EncodeForm.wrRx1 (data : Word) : EncodeForm.Statement (.wrRx1 data) := fun _ => write_form _ _ (by decide)
theorem EncodeForm.rdRx2 : EncodeForm.Statement .rdRx2 := fun _ => read_form _ (by decide)
theorem EncodeForm.wrRx2 (data : Word) : EncodeForm.Statement (.wrRx2 data) := fun _ => write_form _ _ (by decide)
theorem EncodeForm.rdRx3 : EncodeForm.Statement .rdRx3 := fun _ => read_form _ (by decide)
theorem EncodeForm.wrRx3 (data : Word) : EncodeForm.Statement (.wrRx3 data) := fun _ => write_form _ _ (by decide)
theorem EncodeForm.rdRx4 : EncodeForm.Statement .rdRx4 := fun _ => read_form _ (by decide)
theorem EncodeForm.wrRx4 (data : Word) : EncodeForm.Statement (.wrRx4 data) := fun _ => write_form _ _ (by decide)
theorem EncodeForm.rdRx5 : EncodeForm.Statement .rdRx5 := fun _ => read_form _ (by decide)
theorem EncodeForm.wrRx5 (data : Word) : EncodeForm.Statement (.wrRx5 data) := fun _ => write_form _ _ (by decide)
theorem EncodeForm.rdRx6 : EncodeForm.Statement .rdRx6 := fun _ => read_form _ (by decide)
theorem EncodeForm.wrRx6 (data : Word) : EncodeForm.Statement (.wrRx6 data) := fun _ => write_form _ _ (by decide)
theorem EncodeForm.rdRx7 : EncodeForm.Statement .rdRx7 := fun _ => read_form _ (by decide)
theorem EncodeForm.wrRx7 (data : Word) : EncodeForm.Statement (.wrRx7 data) := fun _ => write_form _ _ (by decide)
theorem EncodeForm.rdRx8 : EncodeForm.Statement .rdRx8 := fun _ => read_form _ (by decide)
theorem EncodeForm.wrRx8 (data : Word) : EncodeForm.Statement (.wrRx8 data) := fun _ => write_form _ _ (by decide)
theorem EncodeForm.rdRx9 : EncodeForm.Statement .rdRx9 := fun _ => read_form _ (by decide)
theorem EncodeForm.wrRx9 (data : Word) : EncodeForm.Statement (.wrRx9 data) := fun _ => write_form _ _ (by decide)
theorem EncodeForm.rdRx10 : EncodeForm.Statement .rdRx10 := fun _ => read_form _ (by decide)
theorem EncodeForm.wrRx10 (data : Word) : EncodeForm.Statement (.wrRx10 data) := fun _ => write_form _ _ (by decide)
theorem EncodeForm.rdRx11 : EncodeForm.Statement .rdRx11 := fun _ => read_form _ (by decide)
theorem EncodeForm.wrRx11 (data : Word) : EncodeForm.Statement (.wrRx11 data) := fun _ => write_form _ _ (by decide)
theorem EncodeForm.rdRx12 : EncodeForm.Statement .rdRx12 := fun _ => read_form _ (by decide)
theorem EncodeForm.wrRx12 (data : Word) : EncodeForm.Statement (.wrRx12 data) := fun _ => write_form _ _ (by decide)
theorem EncodeForm.rdPset0 : EncodeForm.Statement .rdPset0 := fun _ => read_form _ (by decide)
theorem EncodeForm.wrPset0 (data : Word) : EncodeForm.Statement (.wrPset0 data) := fun _ => write_form _ _ (by decide)
theorem EncodeForm.rdPset1 : EncodeForm.Statement .rdPset1 := fun _ => read_form _ (by decide)
theorem EncodeForm.wrPset1 (data : Word) : EncodeForm.Statement (.wrPset1 data) := fun _ => write_form _ _ (by decide)
theorem EncodeForm.rdPset2 : EncodeForm.Statement .rdPset2 := fun _ => read_form _ (by decide)
theorem EncodeForm.wrPset2 (data : Word) : EncodeForm.Statement (.wrPset2 data) := fun _ => write_form _ _ (by decide)
theorem EncodeForm.rdPset3 : EncodeForm.Statement .rdPset3 := fun _ => read_form _ (by decide)
theorem EncodeForm.wrPset3 (data : Word) : EncodeForm.Statement (.wrPset3 data) := fun _ => write_form _ _ (by decide)
theorem EncodeForm.rdPset4 : EncodeForm.Statement .rdPset4 := fun _ => read_form _ (by decide)
theorem EncodeForm.wrPset4 (data : Word) : EncodeForm.Statement (.wrPset4 data) := fun _ => write_form _ _ (by decide)
theorem EncodeForm.rdPset5 : EncodeForm.Statement .rdPset5 := fun _ => read_form _ (by decide)
theorem EncodeForm.wrPset5 (data : Word) : EncodeForm.Statement (.wrPset5 data) := fun _ => write_form _ _ (by decide)
theorem EncodeForm.rdPset6 : EncodeForm.Statement .rdPset6 := fun _ => read_form _ (by decide)
theorem EncodeForm.wrPset6 (data : Word) : EncodeForm.Statement (.wrPset6 data) := fun _ => write_form _ _ (by decide)
theorem EncodeForm.rdPset7 : EncodeForm.Statement .rdPset7 := fun _ => read_form _ (by decide)
theorem EncodeForm.wrPset7 (data : Word) : EncodeForm.Statement (.wrPset7 data) := fun _ => write_form _ _ (by decide)
theorem EncodeForm.rdPset8 : EncodeForm.Statement .rdPset8 := fun _ => read_form _ (by decide)
theorem EncodeForm.wrPset8 (data : Word) : EncodeForm.Statement (.wrPset8 data) := fun _ => write_form _ _ (by decide)
theorem EncodeForm.rdPset9 : EncodeForm.Statement .rdPset9 := fun _ => read_form _ (by decide)
theorem EncodeForm.wrPset9 (data : Word) : EncodeForm.Statement (.wrPset9 data) := fun _ => write_form _ _ (by decide)
theorem EncodeForm.opcNone : EncodeForm.Statement .opcNone := fun cfg => (by simp [Config.opcodes] : cfg.opcNone ∈ cfg.opcodes)
theorem EncodeForm.opcReportInfo : EncodeForm.Statement .opcReportInfo := fun cfg => (by simp [Config.opcodes] : cfg.opcReportInfo ∈ cfg.opcodes)
theorem EncodeForm.opcSetup : EncodeForm.Statement .opcSetup := fun cfg => (by simp [Config.opcodes] : cfg.opcSetup ∈ cfg.opcodes)
theorem EncodeForm.opcListening : EncodeForm.Statement .opcListening := fun cfg => (by simp [Config.opcodes] : cfg.opcListening ∈ cfg.opcodes)
theorem EncodeForm.opcBlListening : EncodeForm.Statement .opcBlListening := fun cfg => (by simp [Config.opcodes] : cfg.opcBlListening ∈ cfg.opcodes)
theorem EncodeForm.opcBlEraseAll : EncodeForm.Statement .opcBlEraseAll := fun cfg => (by simp [Config.opcodes] : cfg.opcBlEraseAll ∈ cfg.opcodes)
theorem EncodeForm.opcBlWriteFirmware : EncodeForm.Statement .opcBlWriteFirmware := fun cfg => (by simp [Config.opcodes] : cfg.opcBlWriteFirmware ∈ cfg.opcodes)

end Sys2Proof.Laws
end

