-- ==== Sys2Proof/Tests/Slice0.lean ====
section
/-! SUPPORT. Tests of single steps, their expected values from 95_test_vectors.md (its instantiation T) or by hand from
the rules, and a witness for the hypotheses of every statement of Obligations.lean. -/

-- One theorem at a time: fewer threads, less memory.
set_option Elab.async false

namespace Sys2Proof.Tests

open Sys2Proof Sys2Proof.Machine

/-! ### The test instantiation T (95_test_vectors.md §0) -/

def cfgT : Config where
  nP := 11
  opcNone := 0x00#32
  opcReportInfo := 0x79#32
  opcSetup := 0x7A#32
  opcListening := 0x6C#32
  opcBlListening := 0x58#32
  opcBlEraseAll := 0x16#32
  opcBlWriteFirmware := 0x1D#32
  pReadyCost := 0#32
  pMinFw := 0xC8#16
  crcPoly := 0x04C11DB7#32
  crcInit := 0xFFFFFFFF#32
  wireByteOrder := .little
  versionField := .lo
  psetLayout := Config.defaultPsetLayout
  windowBase := 0

/-- T with the alternative `N_P` = 10 (90_conflicts.md C1). -/
def cfgTen : Config := { cfgT with nP := 10 }

/-- Reset under T. -/
def s0 : State := State.resetWith cfgT

/-- `encode(o, 0…0)`, with its checksum written out from the table E1 to E7. -/
def plain (o crc : Word) : Frame := #v[o, 0, 0, 0, 0, 0, 0, 0, 0, 0, 0, 0, crc]

def frameNone : Frame := plain 0x00#32 0x5632EEB0#32
def frameReportInfo : Frame := plain 0x79#32 0x19FAFB42#32
def frameSetup : Frame := plain 0x7A#32 0x89739F0D#32
def frameListening : Frame := plain 0x6C#32 0x492A2D1C#32
def frameBlListening : Frame := plain 0x58#32 0x5A17002D#32
def frameEraseAll : Frame := plain 0x16#32 0x966B5CA1#32
def frameWriteFirmware : Frame := plain 0x1D#32 0x74270B72#32

/-- The frame F (E8). -/
def frameF : Frame :=
  #v[0x7A, 0x00010002, 0x00030004, 0x00050006, 0x00070008, 0x0009000A, 0, 0, 0, 0, 0, 0, 0xBFB57CD9]

/-- The parameter words of F. -/
def paramF : Params := #v[0x00010002, 0x00030004, 0x00050006, 0x00070008, 0x0009000A, 0, 0, 0, 0, 0, 0]

/-- PSET = 1, 2, …, 10. -/
def pset10 : Vector Sub16 10 := #v[1, 2, 3, 4, 5, 6, 7, 8, 9, 10]

/-- In a HANDSHAKE of the SETUP probe, at the microstate `e`. -/
def inHandshake (e : EState) : State :=
  { s0 with estate := e, eop := .handshake, tx := frameSetup, opcode := 0x7A#32, outerRemain := 3#32, innerCount := 1#32 }

/-- In a long command `op`, at the microstate `e`, attempt `a`. -/
def inCommand (op : EOp) (a : Word) (e : EState) : State := { inHandshake e with eop := op, attempt := a }

/-- `s` with the environment's answer `ans` presented. -/
def present (ans : EnvAnswer) (s : State) : State := { s with port := ans }

def notReady : EnvAnswer := { answerWith frameSetup with ready := false }
def failed : EnvAnswer := { answerWith frameSetup with ok := false }
def silent : EnvAnswer := { answerWith frameSetup with completes := false }

/-- The outcome is a next state that satisfies `p`. -/
def nextSat (o : Host.Outcome State Fault Refusal) (p : State → Bool) : Bool :=
  match o with
  | .next t => p t
  | .fault _ => false
  | .refused _ => false

/-- The meanings of `is`, one after another. -/
def execAll : List Instr → State → Host.Outcome State Fault Refusal
  | [], s => .next s
  | i :: is, s =>
    match exec i s with
    | .next t => execAll is t
    | .fault r => .fault r
    | .refused r => .refused r

/-- The value the last access read. -/
def lastRead (s : State) : Option Word :=
  match s.busLog.getLast? with
  | some (.read _ v) => some v
  | some (.written _ _) | some (.error _) | none => none

/-! ### Well-formedness: each check refuses an ill-formed term -/

theorem test_wf_cmd_reserved_op : (Instr.wrCtrl 0x9#32).wellFormed cfgT = false := by decide

theorem test_wf_cmd_reserved_bits : (Instr.wrCtrl 0x10#32).wellFormed cfgT = false := by decide

theorem test_wf_cmd : (Instr.wrCtrl 0x8#32).wellFormed cfgT = true := by decide

theorem test_wf_access_width : (({ Access.rd 0x004 with width := .w16 } : Access).wellFormed cfgT) = false := by decide

theorem test_wf_access_misaligned : (Access.rd 0x006).wellFormed cfgT = false := by decide

theorem test_wf_access_reserved_offsets :
    [0x03C, 0x070, 0x07C, 0x0B4, 0x0BC, 0x0F4, 0x0FC, 0x128, 0x1FC, 0x200].all
      (fun o => (Access.rd o).wellFormed cfgT == false) = true := by decide

theorem test_wf_access_read_data : (({ Access.rd 0x004 with data := 1#32 } : Access).wellFormed cfgT) = false := by decide

theorem test_wf_access : (Access.wr 0x0F0 7#32).wellFormed cfgT = true := by decide

theorem test_wf_absent_register :
    Instr.rdTx12.wellFormed cfgT = true ∧ Instr.rdTx12.wellFormed cfgTen = false ∧
    (Access.wr 0x0F0 7#32).wellFormed cfgTen = false := by decide

theorem test_wf_config_opcodes : ¬ ({ cfgT with opcNone := 0x79#32 } : Config).wf := by decide

theorem test_wf_config_layout :
    ¬ ({ cfgT with psetLayout := Vector.replicate 10 (0, .hi) } : Config).wf := by decide

theorem test_wf_config_layout_beyond : ¬ ({ cfgT with nP := 4 } : Config).wf := by decide

/-! ### Decoding: every row, from words written out by R21, R81, R84 and the values of T -/

/-- R81 with the offsets of R21: 0x000 to 0x01C. -/
theorem test_decode_control : ([
    (0x20089ABCDEF#42, .wrCtrl 0x89ABCDEF#32), (0x00000000000#42, .rdCtrl), (0x00400000000#42, .rdStatus),
    (0x20489ABCDEF#42, .wrStatus 0x89ABCDEF#32), (0x20889ABCDEF#42, .crcReset 0x89ABCDEF#32),
    (0x00800000000#42, .rdCrcCtrl), (0x20C89ABCDEF#42, .crcFeed 0x89ABCDEF#32), (0x00C00000000#42, .crcRead),
    (0x21089ABCDEF#42, .pkWrite 0x89ABCDEF#32), (0x01000000000#42, .pkRead),
    (0x21489ABCDEF#42, .pkHiWrite 0x89ABCDEF#32), (0x01400000000#42, .pkHiRead),
    (0x21889ABCDEF#42, .pkLoWrite 0x89ABCDEF#32), (0x01800000000#42, .pkLoRead), (0x01C00000000#42, .rdVersion),
    (0x21C89ABCDEF#42, .wrVersion 0x89ABCDEF#32)] : List (BitVec 42 × Instr)).all (fun p => decodeAccess cfgT p.1 == some p.2) = true := by
  decide +kernel

/-- R81 with the offsets of R21: 0x020 to 0x040. -/
theorem test_decode_engine : ([
    (0x02000000000#42, .rdOuterBudget), (0x22089ABCDEF#42, .wrOuterBudget 0x89ABCDEF#32),
    (0x02400000000#42, .rdInnerBudget), (0x22489ABCDEF#42, .wrInnerBudget 0x89ABCDEF#32),
    (0x02800000000#42, .rdReadyCost), (0x22889ABCDEF#42, .wrReadyCost 0x89ABCDEF#32), (0x02C00000000#42, .rdMinFw),
    (0x22C89ABCDEF#42, .wrMinFw 0x89ABCDEF#32), (0x03000000000#42, .rdOuterRemain),
    (0x23089ABCDEF#42, .wrOuterRemain 0x89ABCDEF#32), (0x03400000000#42, .rdInnerCount),
    (0x23489ABCDEF#42, .wrInnerCount 0x89ABCDEF#32), (0x03800000000#42, .rdAttempt),
    (0x23889ABCDEF#42, .wrAttempt 0x89ABCDEF#32), (0x04000000000#42, .rdOpcode),
    (0x24089ABCDEF#42, .wrOpcode 0x89ABCDEF#32)] : List (BitVec 42 × Instr)).all (fun p => decodeAccess cfgT p.1 == some p.2) = true := by
  decide +kernel

/-- R81 with the offsets of R21: PARAM[1..11]. -/
theorem test_decode_param : ([
    (0x04400000000#42, .rdParam1), (0x24489ABCDEF#42, .wrParam1 0x89ABCDEF#32), (0x04800000000#42, .rdParam2),
    (0x24889ABCDEF#42, .wrParam2 0x89ABCDEF#32), (0x04C00000000#42, .rdParam3),
    (0x24C89ABCDEF#42, .wrParam3 0x89ABCDEF#32), (0x05000000000#42, .rdParam4),
    (0x25089ABCDEF#42, .wrParam4 0x89ABCDEF#32), (0x05400000000#42, .rdParam5),
    (0x25489ABCDEF#42, .wrParam5 0x89ABCDEF#32), (0x05800000000#42, .rdParam6),
    (0x25889ABCDEF#42, .wrParam6 0x89ABCDEF#32), (0x05C00000000#42, .rdParam7),
    (0x25C89ABCDEF#42, .wrParam7 0x89ABCDEF#32), (0x06000000000#42, .rdParam8),
    (0x26089ABCDEF#42, .wrParam8 0x89ABCDEF#32), (0x06400000000#42, .rdParam9),
    (0x26489ABCDEF#42, .wrParam9 0x89ABCDEF#32), (0x06800000000#42, .rdParam10),
    (0x26889ABCDEF#42, .wrParam10 0x89ABCDEF#32), (0x06C00000000#42, .rdParam11),
    (0x26C89ABCDEF#42, .wrParam11 0x89ABCDEF#32)] : List (BitVec 42 × Instr)).all (fun p => decodeAccess cfgT p.1 == some p.2) = true := by
  decide +kernel

/-- R81 with the offsets of R21: TX[0..12]. -/
theorem test_decode_tx : ([
    (0x08000000000#42, .rdTx0), (0x28089ABCDEF#42, .wrTx0 0x89ABCDEF#32), (0x08400000000#42, .rdTx1),
    (0x28489ABCDEF#42, .wrTx1 0x89ABCDEF#32), (0x08800000000#42, .rdTx2), (0x28889ABCDEF#42, .wrTx2 0x89ABCDEF#32),
    (0x08C00000000#42, .rdTx3), (0x28C89ABCDEF#42, .wrTx3 0x89ABCDEF#32), (0x09000000000#42, .rdTx4),
    (0x29089ABCDEF#42, .wrTx4 0x89ABCDEF#32), (0x09400000000#42, .rdTx5), (0x29489ABCDEF#42, .wrTx5 0x89ABCDEF#32),
    (0x09800000000#42, .rdTx6), (0x29889ABCDEF#42, .wrTx6 0x89ABCDEF#32), (0x09C00000000#42, .rdTx7),
    (0x29C89ABCDEF#42, .wrTx7 0x89ABCDEF#32), (0x0A000000000#42, .rdTx8), (0x2A089ABCDEF#42, .wrTx8 0x89ABCDEF#32),
    (0x0A400000000#42, .rdTx9), (0x2A489ABCDEF#42, .wrTx9 0x89ABCDEF#32), (0x0A800000000#42, .rdTx10),
    (0x2A889ABCDEF#42, .wrTx10 0x89ABCDEF#32), (0x0AC00000000#42, .rdTx11), (0x2AC89ABCDEF#42, .wrTx11 0x89ABCDEF#32),
    (0x0B000000000#42, .rdTx12), (0x2B089ABCDEF#42, .wrTx12 0x89ABCDEF#32)] : List (BitVec 42 × Instr)).all (fun p => decodeAccess cfgT p.1 == some p.2) = true := by
  decide +kernel

/-- R81 with the offsets of R21: RX[0..12]. -/
theorem test_decode_rx : ([
    (0x0C000000000#42, .rdRx0), (0x2C089ABCDEF#42, .wrRx0 0x89ABCDEF#32), (0x0C400000000#42, .rdRx1),
    (0x2C489ABCDEF#42, .wrRx1 0x89ABCDEF#32), (0x0C800000000#42, .rdRx2), (0x2C889ABCDEF#42, .wrRx2 0x89ABCDEF#32),
    (0x0CC00000000#42, .rdRx3), (0x2CC89ABCDEF#42, .wrRx3 0x89ABCDEF#32), (0x0D000000000#42, .rdRx4),
    (0x2D089ABCDEF#42, .wrRx4 0x89ABCDEF#32), (0x0D400000000#42, .rdRx5), (0x2D489ABCDEF#42, .wrRx5 0x89ABCDEF#32),
    (0x0D800000000#42, .rdRx6), (0x2D889ABCDEF#42, .wrRx6 0x89ABCDEF#32), (0x0DC00000000#42, .rdRx7),
    (0x2DC89ABCDEF#42, .wrRx7 0x89ABCDEF#32), (0x0E000000000#42, .rdRx8), (0x2E089ABCDEF#42, .wrRx8 0x89ABCDEF#32),
    (0x0E400000000#42, .rdRx9), (0x2E489ABCDEF#42, .wrRx9 0x89ABCDEF#32), (0x0E800000000#42, .rdRx10),
    (0x2E889ABCDEF#42, .wrRx10 0x89ABCDEF#32), (0x0EC00000000#42, .rdRx11), (0x2EC89ABCDEF#42, .wrRx11 0x89ABCDEF#32),
    (0x0F000000000#42, .rdRx12), (0x2F089ABCDEF#42, .wrRx12 0x89ABCDEF#32)] : List (BitVec 42 × Instr)).all (fun p => decodeAccess cfgT p.1 == some p.2) = true := by
  decide +kernel

/-- R81 with the offsets of R21: PSET[0..9]. -/
theorem test_decode_pset : ([
    (0x10000000000#42, .rdPset0), (0x30089ABCDEF#42, .wrPset0 0x89ABCDEF#32), (0x10400000000#42, .rdPset1),
    (0x30489ABCDEF#42, .wrPset1 0x89ABCDEF#32), (0x10800000000#42, .rdPset2), (0x30889ABCDEF#42, .wrPset2 0x89ABCDEF#32),
    (0x10C00000000#42, .rdPset3), (0x30C89ABCDEF#42, .wrPset3 0x89ABCDEF#32), (0x11000000000#42, .rdPset4),
    (0x31089ABCDEF#42, .wrPset4 0x89ABCDEF#32), (0x11400000000#42, .rdPset5), (0x31489ABCDEF#42, .wrPset5 0x89ABCDEF#32),
    (0x11800000000#42, .rdPset6), (0x31889ABCDEF#42, .wrPset6 0x89ABCDEF#32), (0x11C00000000#42, .rdPset7),
    (0x31C89ABCDEF#42, .wrPset7 0x89ABCDEF#32), (0x12000000000#42, .rdPset8), (0x32089ABCDEF#42, .wrPset8 0x89ABCDEF#32),
    (0x12400000000#42, .rdPset9), (0x32489ABCDEF#42, .wrPset9 0x89ABCDEF#32)] : List (BitVec 42 × Instr)).all (fun p => decodeAccess cfgT p.1 == some p.2) = true := by
  decide +kernel

/-- R84. -/
theorem test_decode_commands :
    [0x0#32, 0x1#32, 0x2#32, 0x3#32, 0x4#32, 0x5#32, 0x6#32, 0x7#32, 0x8#32].map (fun v => decode cfgT (.cmd v)) =
      [some .nop, some .encode, some .verify, some .handshake, some .identify, some .configure, some .packPset,
        some .unpackPset, some .clearStatus] := by decide

/-- R85, R90: reserved codes and reserved bits. -/
theorem test_decode_commands_reserved :
    [0x9#32, 0xF#32, 0x10#32, 0x80000001#32].all (fun v => decode cfgT (.cmd v) == none) = true := by decide

/-- R87 under T. -/
theorem test_decode_wire :
    [0x00#32, 0x79#32, 0x7A#32, 0x6C#32, 0x58#32, 0x16#32, 0x1D#32, 0x55#32].map (fun v => decode cfgT (.wire v)) =
      [some .opcNone, some .opcReportInfo, some .opcSetup, some .opcListening, some .opcBlListening,
        some .opcBlEraseAll, some .opcBlWriteFirmware, none] := by decide

/-- R21, R63: with `N_P` = 10 the last PARAM, TX and RX offsets are reserved, and those before them are not. -/
theorem test_decode_ten :
    [0x06C00000000#42, 0x26C00000001#42, 0x0B000000000#42, 0x0F000000000#42].all
      (fun w => decodeAccess cfgTen w == none) = true ∧
    decodeAccess cfgTen 0x26800000001#42 = some (.wrParam10 1#32) ∧
    decodeAccess cfgTen 0x0AC00000000#42 = some .rdTx11 ∧
    decodeBus cfgTen (Access.rd 0x0F0) = .busError .reserved := by decide +kernel

/-- R93, R92: the accesses of the pseudo-instructions. -/
theorem test_pseudo_expand :
    (Pseudo.expand (.cmd .verify)).map Access.word = [0x20000000002#42] ∧
    (Pseudo.expand (.pack 0x1234#32 0x5678#32)).map Access.word = [0x21400001234#42, 0x21800005678#42] := by decide

/-! ### Arithmetic: Q1 to Q8, packing, link bytes -/

/-- Q1 to Q5. -/
theorem test_crc_word :
    crcWord 0x04C11DB7#32 0xFFFFFFFF#32 0#32 = 0xC704DD7B#32 ∧
    crcWord 0x04C11DB7#32 0xFFFFFFFF#32 0x12345678#32 = 0xDF8A8A2B#32 ∧
    crcWord 0x04C11DB7#32 0xFFFFFFFF#32 0xFFFFFFFF#32 = 0#32 ∧
    crcWord 0x04C11DB7#32 0#32 1#32 = 0x04C11DB7#32 ∧
    crcWord 0x04C11DB7#32 0xDF8A8A2B#32 0x9ABCDEF0#32 = 0x7D24A31B#32 := by decide +kernel

/-- Q6 to Q8. -/
theorem test_crc_frame :
    crcWords cfgT (List.replicate 12 0#32) = 0x5632EEB0#32 ∧
    crcWords cfgT (List.replicate 12 0xFFFFFFFF#32) = 0x8417E798#32 ∧
    crcWords cfgT [0x7A, 1, 2, 3, 4, 5, 6, 7, 8, 9, 10, 11] = 0x15786D8A#32 := by decide +kernel

/-- E1 to E7: the checksums of the plain frames. -/
theorem test_encode_frames :
    [frameNone, frameReportInfo, frameSetup, frameListening, frameBlListening, frameEraseAll, frameWriteFirmware].all
      (fun f => encodeFrame cfgT f[0] zeroParams == f) = true := by decide +kernel

/-- R113, R115 with `N_P` = 10: eleven words under the checksum, which is word 11. -/
theorem test_encode_ten :
    crcWords cfgTen (List.replicate 12 0#32) = 0xC799DB3E#32 ∧
    encodeFrame cfgTen 0x7A#32 #v[1, 2, 3, 4, 5, 6, 7, 8, 9, 10, 11] =
      #v[0x7A, 1, 2, 3, 4, 5, 6, 7, 8, 9, 10, 0xFF0E39A9, 0] := by decide +kernel

/-- R64, R65: little-endian and big-endian bytes of a word. -/
theorem test_word_bytes :
    (List.finRange 4).map (wordByte .little 0x12345678#32) = [0x78#8, 0x56#8, 0x34#8, 0x12#8] ∧
    (List.finRange 4).map (wordByte .big 0x12345678#32) = [0x12#8, 0x34#8, 0x56#8, 0x78#8] ∧
    wordOfBytes .little 0x78#8 0x56#8 0x34#8 0x12#8 = 0x12345678#32 ∧
    wordOfBytes .big 0x12#8 0x34#8 0x56#8 0x78#8 = 0x12345678#32 := by decide

/-! ### Commands -/

/-- P5 access 6 and R230: RESULT keeps what it was, here OK. -/
theorem test_nop_keeps_result :
    nextSat (exec .nop { s0 with result := .ok }) (fun t => statusWord t == 0x20#32) = true := by decide

/-- E8. -/
theorem test_encode :
    nextSat (exec .encode { s0 with opcode := 0x7A#32, param := paramF })
      (fun t => t.tx == frameF && statusWord t == 0x20#32) = true := by decide +kernel

/-- V1, V3. -/
theorem test_verify :
    nextSat (exec .verify { s0 with opcode := 0x7A#32, rx := frameF }) (fun t => statusWord t == 0xE20#32) = true ∧
    nextSat (exec .verify { s0 with opcode := 0x7A#32, rx := frameF.set 5 0x0008000A#32 })
      (fun t => statusWord t == 0xC20#32) = true := by decide +kernel

/-- V9, V10: a listening opcode comes before the echo. -/
theorem test_verify_listening :
    nextSat (exec .verify { s0 with opcode := 0x6C#32, rx := frameListening }) (fun t => statusWord t == 0x620#32) = true ∧
    nextSat (exec .verify { s0 with opcode := 0x7A#32, rx := frameBlListening }) (fun t => statusWord t == 0xA20#32) =
      true := by decide +kernel

/-- K7. -/
theorem test_pack_pset :
    nextSat (exec .packPset { s0 with pset := #v[1, 2, 3, 4, 5, 6, 7, 8, 9, 0xFFFF] })
      (fun t => t.param == #v[0x00010002, 0x00030004, 0x00050006, 0x00070008, 0x0009FFFF, 0, 0, 0, 0, 0, 0] &&
        statusWord t == 0x20#32) = true := by decide +kernel

/-- K9. -/
theorem test_unpack_pset :
    nextSat (exec .unpackPset
        { s0 with param := #v[0xABCD0123, 0x00030004, 0x00050006, 0x00070008, 0x0009FFFF, 0, 0, 0, 0, 0, 0] })
      (fun t => t.pset == #v[0xABCD, 0x0123, 3, 4, 5, 6, 7, 8, 9, 0xFFFF]) = true := by decide +kernel

/-- X11. -/
theorem test_clear_status :
    nextSat (exec .clearStatus
        { s0 with result := .timeout, crcOk := true, rxKind := .echo, xferFail := true, cmdRejected := true, werr := true })
      (fun t => t == { s0 with busLog := [.written 0x000 8#32] }) = true := by decide +kernel

/-- P5 accesses 3, 4. -/
theorem test_handshake_starts :
    nextSat (exec .handshake { s0 with opcode := 0x7A#32, outerBudget := 3#32 })
      (fun t => statusWord t == 3#32 && t.tx == frameSetup && t.outerRemain == 3#32) = true := by decide +kernel

/-- P4 access 2: TX, and STATUS with BUSY = 1 and STATE = SQ_START. -/
theorem test_identify_starts :
    nextSat (exec .identify { s0 with opcode := 0x7A#32, param := paramF })
      (fun t => t.tx == frameReportInfo && statusWord t == 0x15#32) = true := by decide +kernel

/-- P3 access 14: the probe is SETUP whatever OPCODE holds (S1). -/
theorem test_configure_starts :
    nextSat (exec .configure { s0 with opcode := 0x6C#32, param := paramF })
      (fun t => t.tx == frameF && t.estate == .sqStart && t.eop == .configure) = true := by decide +kernel

/-- P5 access 14. -/
theorem test_wrCtrl_reserved_bit :
    nextSat (exec (.wrCtrl 0x10#32) s0) (fun t => statusWord t == 0x2000#32) = true := by decide

/-- P5 accesses 6, 7: a command while busy. -/
theorem test_wrCtrl_busy :
    nextSat (exec (.wrCtrl 0#32) (inHandshake .hsOuterCheck)) (fun t => statusWord t == 0x2003#32) = true := by decide

/-! ### Registers -/

/-- R234, R235: every gated register reads back what was written while idle, MIN_FW and PSET bits 15:0 only. -/
theorem test_write_then_read : ([
    (.wrOuterBudget 0x89ABCDEF#32, 0x020, 0x89ABCDEF#32), (.wrInnerBudget 0x89ABCDEF#32, 0x024, 0x89ABCDEF#32),
    (.wrReadyCost 0x89ABCDEF#32, 0x028, 0x89ABCDEF#32), (.wrMinFw 0x89ABCDEF#32, 0x02C, 0x0000CDEF#32),
    (.wrOpcode 0x89ABCDEF#32, 0x040, 0x89ABCDEF#32), (.wrParam1 0x89ABCDEF#32, 0x044, 0x89ABCDEF#32),
    (.wrParam2 0x89ABCDEF#32, 0x048, 0x89ABCDEF#32), (.wrParam3 0x89ABCDEF#32, 0x04C, 0x89ABCDEF#32),
    (.wrParam4 0x89ABCDEF#32, 0x050, 0x89ABCDEF#32), (.wrParam5 0x89ABCDEF#32, 0x054, 0x89ABCDEF#32),
    (.wrParam6 0x89ABCDEF#32, 0x058, 0x89ABCDEF#32), (.wrParam7 0x89ABCDEF#32, 0x05C, 0x89ABCDEF#32),
    (.wrParam8 0x89ABCDEF#32, 0x060, 0x89ABCDEF#32), (.wrParam9 0x89ABCDEF#32, 0x064, 0x89ABCDEF#32),
    (.wrParam10 0x89ABCDEF#32, 0x068, 0x89ABCDEF#32), (.wrParam11 0x89ABCDEF#32, 0x06C, 0x89ABCDEF#32),
    (.wrRx0 0x89ABCDEF#32, 0x0C0, 0x89ABCDEF#32), (.wrRx1 0x89ABCDEF#32, 0x0C4, 0x89ABCDEF#32),
    (.wrRx2 0x89ABCDEF#32, 0x0C8, 0x89ABCDEF#32), (.wrRx3 0x89ABCDEF#32, 0x0CC, 0x89ABCDEF#32),
    (.wrRx4 0x89ABCDEF#32, 0x0D0, 0x89ABCDEF#32), (.wrRx5 0x89ABCDEF#32, 0x0D4, 0x89ABCDEF#32),
    (.wrRx6 0x89ABCDEF#32, 0x0D8, 0x89ABCDEF#32), (.wrRx7 0x89ABCDEF#32, 0x0DC, 0x89ABCDEF#32),
    (.wrRx8 0x89ABCDEF#32, 0x0E0, 0x89ABCDEF#32), (.wrRx9 0x89ABCDEF#32, 0x0E4, 0x89ABCDEF#32),
    (.wrRx10 0x89ABCDEF#32, 0x0E8, 0x89ABCDEF#32), (.wrRx11 0x89ABCDEF#32, 0x0EC, 0x89ABCDEF#32),
    (.wrRx12 0x89ABCDEF#32, 0x0F0, 0x89ABCDEF#32), (.wrPset0 0x89ABCDEF#32, 0x100, 0x0000CDEF#32),
    (.wrPset1 0x89ABCDEF#32, 0x104, 0x0000CDEF#32), (.wrPset2 0x89ABCDEF#32, 0x108, 0x0000CDEF#32),
    (.wrPset3 0x89ABCDEF#32, 0x10C, 0x0000CDEF#32), (.wrPset4 0x89ABCDEF#32, 0x110, 0x0000CDEF#32),
    (.wrPset5 0x89ABCDEF#32, 0x114, 0x0000CDEF#32), (.wrPset6 0x89ABCDEF#32, 0x118, 0x0000CDEF#32),
    (.wrPset7 0x89ABCDEF#32, 0x11C, 0x0000CDEF#32), (.wrPset8 0x89ABCDEF#32, 0x120, 0x0000CDEF#32),
    (.wrPset9 0x89ABCDEF#32, 0x124, 0x0000CDEF#32)] : List (Instr × Nat × Word)).all (fun p =>
      nextSat (execAll [p.1] s0) (fun t =>
        nextSat (act (.host (Access.rd p.2.1)) t) (fun u => lastRead u == some p.2.2))) = true := by
  decide +kernel

/-- R54, P5 access 5: dropped with WERR. -/
theorem test_gated_writes_busy : ([
    (.wrOuterBudget 1#32), (.wrInnerBudget 1#32), (.wrReadyCost 1#32), (.wrMinFw 1#32), (.wrOpcode 1#32),
    (.wrParam1 1#32), (.wrParam2 1#32), (.wrParam3 1#32), (.wrParam4 1#32), (.wrParam5 1#32), (.wrParam6 1#32),
    (.wrParam7 1#32), (.wrParam8 1#32), (.wrParam9 1#32), (.wrParam10 1#32), (.wrParam11 1#32), (.wrRx0 1#32),
    (.wrRx1 1#32), (.wrRx2 1#32), (.wrRx3 1#32), (.wrRx4 1#32), (.wrRx5 1#32), (.wrRx6 1#32), (.wrRx7 1#32),
    (.wrRx8 1#32), (.wrRx9 1#32), (.wrRx10 1#32), (.wrRx11 1#32), (.wrRx12 1#32), (.wrPset0 1#32), (.wrPset1 1#32),
    (.wrPset2 1#32), (.wrPset3 1#32), (.wrPset4 1#32), (.wrPset5 1#32), (.wrPset6 1#32), (.wrPset7 1#32),
    (.wrPset8 1#32), (.wrPset9 1#32)] : List Instr).all (fun i =>
      nextSat (exec i (inHandshake .hsOuterPoll))
        (fun t => { t with busLog := [] } == { inHandshake .hsOuterPoll with werr := true })) = true := by
  decide +kernel

/-- R236, P5 access 13: dropped with WERR. -/
theorem test_read_only_writes : ([
    (.wrStatus 1#32), (.wrVersion 1#32), (.wrOuterRemain 1#32), (.wrInnerCount 1#32), (.wrAttempt 1#32), (.wrTx0 1#32),
    (.wrTx1 1#32), (.wrTx2 1#32), (.wrTx3 1#32), (.wrTx4 1#32), (.wrTx5 1#32), (.wrTx6 1#32), (.wrTx7 1#32),
    (.wrTx8 1#32), (.wrTx9 1#32), (.wrTx10 1#32), (.wrTx11 1#32), (.wrTx12 1#32)] : List Instr).all (fun i =>
      nextSat (exec i s0) (fun t => { t with busLog := [] } == { s0 with werr := true })) = true := by
  decide +kernel

/-- The array elements a read returns, at the ends of each array (X18). -/
theorem test_array_reads :
    nextSat (exec .rdParam11 { s0 with param := #v[1, 2, 3, 4, 5, 6, 7, 8, 9, 10, 11] }) (lastRead · == some 11#32) = true ∧
    nextSat (exec .rdTx12 { s0 with tx := frameF }) (lastRead · == some 0xBFB57CD9#32) = true ∧
    nextSat (exec .rdRx12 { s0 with rx := frameListening }) (lastRead · == some 0x492A2D1C#32) = true ∧
    nextSat (exec .rdPset9 { s0 with pset := pset10 }) (lastRead · == some 10#32) = true := by decide

/-- R21, R63 with `N_P` = 10: an access to a word the block does not have is a BusError, and sets no flag. -/
theorem test_absent_register_ten :
    [Instr.rdParam11, .wrParam11 1#32, .rdTx12, .wrTx12 1#32, .rdRx12, .wrRx12 1#32].all (fun i =>
      nextSat (exec i { s0 with cfg := cfgTen }) (fun t =>
        { t with busLog := [] } == { s0 with cfg := cfgTen } && lastRead t == none)) = true ∧
    nextSat (act (.host (Access.wr 0x080 1#32)) { s0 with cfg := cfgTen }) (fun t => t.werr) = true := by decide +kernel

/-- Z1 to Z7, X12, Q14. -/
theorem test_reset_reads :
    [(0x020, 0x1388#32), (0x024, 0x64#32), (0x028, 0#32), (0x02C, 0xC8#32), (0x01C, 0x270F#32), (0x004, 0#32),
      (0x00C, 0xFFFFFFFF#32), (0x010, 0#32), (0x030, 0#32), (0x034, 0#32), (0x038, 0#32), (0x040, 0#32), (0x000, 0#32),
      (0x008, 0#32)].all
      (fun p => nextSat (act (.host (Access.rd p.1)) s0) (lastRead · == some p.2)) = true := by decide +kernel

/-- Q9, Q12, Q13. -/
theorem test_crc_unit :
    nextSat (execAll [.crcReset 1#32, .crcFeed 0x12345678#32, .crcReset 0xFFFFFFFE#32, .crcRead] { s0 with crcAcc := 5#32 })
      (lastRead · == some 0xDF8A8A2B#32) = true := by decide +kernel

/-- K1, K2. -/
theorem test_pk_halves :
    nextSat (execAll [.pkHiWrite 0x1234#32, .pkLoWrite 0x5678#32, .pkHiWrite 0x00012345#32, .pkRead] s0)
      (lastRead · == some 0x23455678#32) = true := by decide

/-- K3, K4. -/
theorem test_pk_reads :
    nextSat (execAll [.pkWrite 0xFFFF0000#32, .pkHiRead] s0) (lastRead · == some 0xFFFF#32) = true ∧
    nextSat (execAll [.pkWrite 0xFFFF0000#32, .pkLoRead] s0) (lastRead · == some 0#32) = true ∧
    nextSat (execAll [.pkWrite 0xDEADBEEF#32, .pkLoWrite 0xFFFF0001#32, .pkRead] s0) (lastRead · == some 0xDEAD0001#32) =
      true := by decide

/-! ### The bus and the fetch -/

/-- X13 to X17. -/
theorem test_bus_errors :
    [{ Access.rd 0x004 with width := .w16 }, Access.rd 0x006, Access.rd 0x03C, Access.wr 0x070 1#32, Access.rd 0x07C,
      Access.rd 0x0B4, Access.rd 0x0BC, Access.rd 0x0F4, Access.rd 0x0FC, Access.rd 0x128, Access.rd 0x1FC,
      { Access.wr 0x00C 1#32 with width := .w16 }].all
      (fun a => nextSat (act (.host a) (inHandshake .hsOuterPoll))
        (fun t => t == { inHandshake .hsOuterPoll with busLog := [.error a.off] })) = true := by decide +kernel

/-- R63: outside the window. -/
theorem test_outside_window :
    act (.host (Access.rd 0x200)) s0 = .fault (.outsideWindow 0x200) := by rfl

/-- A table word placed by `withFetchWord` is what the next step runs (P1 access 2, P5 access 17). -/
theorem test_withFetchWord :
    nextSat (step (State.withFetchWord s0 48 0x20C0000007A)) (fun t => t.busLog == [.written 0x00C 0x7A#32]) = true ∧
    nextSat (step (State.withFetchWord { s0 with werr := true } 32 8)) (fun t => t.werr == false) = true := by
  decide +kernel

/-- The instruction a table word stands for. -/
theorem test_decodeTableWord :
    decodeTableWord 48 0x20C0000007A = some (.crcFeed 0x7A#32) ∧ decodeTableWord 32 5 = some .configure := by
  decide +kernel

/-! ### The engine -/

/-- H9 and H1: the budget is checked first. -/
theorem test_outer_check :
    nextSat (act (.engine notReady) { inHandshake .hsOuterCheck with outerRemain := 0#32 })
      (fun t => t.result == .timeout && t.estate == .idle && t.trace == []) = true ∧
    nextSat (act (.engine notReady) (inHandshake .hsOuterCheck)) (fun t => t.estate == .hsOuterSleep) = true := by
  decide +kernel

/-- H3a: READY_COST saturates. -/
theorem test_outer_poll_cost :
    nextSat (act (.engine (answerWith frameListening)) { inHandshake .hsOuterPoll with readyCost := 10#32 })
      (fun t => t.outerRemain == 0#32 && t.estate == .hsOuterXfer && t.trace == [.ready true]) = true := by decide +kernel

/-- H4, H7: a bad checksum and an echo are discarded in the outer loop, `L` is not. -/
theorem test_outer_xfer :
    nextSat (act (.engine (answerWith (frameListening.set 12 0x492A2D1D#32))) (inHandshake .hsOuterXfer))
      (fun t => t.estate == .hsOuterCheck && t.crcOk == false && t.rxKind == .listening) = true ∧
    nextSat (act (.engine (answerWith frameSetup)) (inHandshake .hsOuterXfer))
      (fun t => t.estate == .hsOuterCheck && t.crcOk && t.rxKind == .echo) = true ∧
    nextSat (act (.engine (answerWith frameListening)) (inHandshake .hsOuterXfer))
      (fun t => t.estate == .hsInnerCheck && t.innerCount == 0#32 && t.rx == frameListening) = true := by decide +kernel

/-- H10, H11: a failed transfer sets XFER_FAIL and clears CRC_OK. -/
theorem test_failed_transfer :
    nextSat (act (.engine failed) (inHandshake .hsInnerXfer))
      (fun t => t.estate == .hsInnerCheck && t.xferFail && t.crcOk == false && t.rxKind == .other && t.draws == 13 &&
        t.trace == [.exchange frameSetup none]) = true := by decide +kernel

/-- R165, R186 with `N_P` = 10: the reply is its first 12 words, the last of them the checksum. -/
theorem test_outer_xfer_ten :
    nextSat (act (.engine (answerWith #v[0x6C, 0, 0, 0, 0, 0, 0, 0, 0, 0, 0, 0x731D5471, 5]))
        { inHandshake .hsOuterXfer with cfg := cfgTen })
      (fun t => t.estate == .hsInnerCheck && t.crcOk && t.rx[11] == 0x731D5471#32 && t.rx[12] == 0#32) = true := by
  decide +kernel

/-- H8: INNER_BUDGET = 0. -/
theorem test_inner_check :
    nextSat (act (.engine failed) { inHandshake .hsInnerCheck with innerBudget := 0#32, innerCount := 0#32 })
      (fun t => t.result == .protocol && t.estate == .idle && t.eop == .none) = true := by decide +kernel

/-- H6, H6b: the settle delays. -/
theorem test_settle :
    nextSat (act (.engine failed) { inHandshake .hsInnerSettle with tx := frameEraseAll })
      (fun t => t.trace == [.sleep 600#32] && t.estate == .hsInnerSleep) = true ∧
    nextSat (act (.engine failed) { inHandshake .hsInnerSettle with tx := frameWriteFirmware })
      (fun t => t.trace == [.sleep 10#32] && t.estate == .hsInnerSleep) = true ∧
    nextSat (act (.engine silent) (inHandshake .hsInnerSettle))
      (fun t => t.trace == [] && t.estate == .hsInnerSleep) = true := by decide +kernel

/-- H2: the echo ends the handshake. -/
theorem test_inner_xfer :
    nextSat (act (.engine (answerWith frameSetup)) (inHandshake .hsInnerXfer))
      (fun t => statusWord t == 0xE20#32) = true ∧
    nextSat (act (.engine (answerWith frameSetup)) (inCommand .configure 2#32 .hsInnerXfer))
      (fun t => t.estate == .sqEval && t.hsRes == .ok && t.result == .none) = true := by decide +kernel

/-- S1: reset and backoff before attempt 2. -/
theorem test_sequencer_backoff :
    nextSat (act (.engine notReady) (inCommand .configure 2#32 .sqStart)) (fun t => t.estate == .sqReset) = true ∧
    nextSat (act (.engine notReady) (inCommand .configure 2#32 .sqReset)) (fun t => t.trace == [.resetDev]) = true ∧
    nextSat (act (.engine notReady) (inCommand .configure 2#32 .sqBackoff))
      (fun t => t.trace == [.sleep 600#32] && t.outerRemain == 5000#32) = true := by decide +kernel

/-- S3b, S3d, S4. -/
theorem test_identify_eval :
    nextSat (act (.engine notReady) { inCommand .identify 0#32 .sqEval with rx := frameReportInfo.set 1 0xC7#32 })
      (fun t => t.result == .notDetected && t.version == 9999#16) = true ∧
    nextSat (act (.engine notReady) { inCommand .identify 0#32 .sqEval with rx := frameReportInfo.set 1 0x123400C8#32 })
      (fun t => t.result == .identified && t.version == 0xC8#16) = true ∧
    nextSat (act (.engine notReady) { inCommand .identify 4#32 .sqEval with hsRes := .timeout })
      (fun t => t.result == .notDetected && t.attempt == 4#32 && t.estate == .idle) = true := by decide +kernel

/-- S2. -/
theorem test_configure_eval :
    nextSat (act (.engine notReady) { inCommand .configure 9#32 .sqEval with hsRes := .timeout })
      (fun t => statusWord t == 0xE0#32 && t.attempt == 9#32) = true ∧
    nextSat (act (.engine notReady) { inCommand .configure 8#32 .sqEval with hsRes := .protocol })
      (fun t => t.estate == .sqStart && t.attempt == 9#32) = true := by decide +kernel

/-- R169. -/
theorem test_silent_environment :
    nextSat (act (.engine silent) (inHandshake .hsOuterXfer)) (fun t => t == present silent (inHandshake .hsOuterXfer)) =
      true := by decide +kernel

/-- Z9. -/
theorem test_block_reset :
    nextSat (act .blockReset { inHandshake .hsOuterPoll with trace := [.sleep 1#32], crcAcc := 1#32, rx := frameF })
      (fun t => t == { s0 with trace := [.sleep 1#32] }) = true := by decide +kernel

/-! ### The wire opcodes (log 15) -/

/-- R189: each named opcode as the probe's. -/
theorem test_wire_settle :
    [(Instr.opcNone, []), (.opcReportInfo, []), (.opcSetup, []), (.opcListening, []), (.opcBlListening, []),
      (.opcBlEraseAll, [PortEvent.sleep 600#32]), (.opcBlWriteFirmware, [.sleep 10#32])].all
      (fun p => nextSat (exec p.1 (present notReady (inHandshake .hsInnerSettle)))
        (fun t => t.trace == p.2 && t.estate == .hsInnerSleep)) = true := by decide +kernel

/-- R210, R216: the probes of IDENTIFY and CONFIGURE. -/
theorem test_wire_probes :
    nextSat (exec .opcReportInfo s0) (fun t => t.tx == frameReportInfo) = true ∧
    nextSat (exec .opcSetup { s0 with param := paramF }) (fun t => t.tx == frameF) = true := by decide +kernel

/-! ### Witnesses: a concrete state and operands that meet the hypotheses of each statement -/

/-- A well-formed configuration: DecodeEncodeAgree, WireOpcodesSettle, WireOpcodesAcknowledge. -/
theorem witness_configWellFormed : cfgT.wf ∧ cfgTen.wf ∧ s0.cfg.wf := by decide

/-- Words of each format that decode. -/
theorem witness_EncodeDecodeAgree :
    decode cfgT (.cmd 0x8#32) = some .clearStatus ∧
    decode cfgT (.access 0x2F0FFFFFFFF#42) = some (.wrRx12 0xFFFFFFFF#32) ∧
    decode cfgT (.access 0x0F000000001#42) = some .rdRx12 ∧
    decode cfgT (.wire 0x1D#32) = some .opcBlWriteFirmware := by decide +kernel

/-- Both ends of each listed range decode, and their reserved neighbours do not. -/
theorem witness_ListedOffsetsDecodeToOneRow :
    [0x000, 0x038, 0x040, 0x06C, 0x080, 0x0B0, 0x0C0, 0x0F0, 0x100, 0x124].all
      (fun o => (Access.rd o).width == .w32 && o % 4 == 0 && decide (o < 0x200) &&
        (match decodeBus cfgT (Access.rd o) with | .instr _ => true | .busError _ => false | .outside => false)) = true ∧
    [0x03C, 0x070, 0x07C, 0x0B4, 0x0BC, 0x0F4, 0x0FC, 0x128, 0x1FC].all
      (fun o => decodeBus cfgT (Access.wr o 1#32) == .busError .reserved) = true := by decide +kernel

/-- The largest command code, and the first value after it. -/
theorem witness_CommandValuesDecode :
    decodeCommand 8#32 = some .clearStatus ∧ decodeCommand 0#32 = some .nop ∧ decodeCommand 9#32 = none := by decide

/-- A host access that decodes, and an engine step that handles a named opcode. -/
theorem witness_StepRunsDecodedInstruction :
    ({ s0 with inputs := [.host (Access.rd 0x004)] } : State).inputs = .host (Access.rd 0x004) :: [] ∧
    decodeBus s0.cfg (Access.rd 0x004) = .instr .rdStatus ∧
    wireWord { inHandshake .hsOuterXfer with inputs := [], port := answerWith frameListening } = some 0x6C#32 ∧
    decodeWire (inHandshake .hsOuterXfer).cfg 0x6C#32 = some .opcListening := by decide +kernel

/-- Rows whose register the block has and rows whose register it has not, at the boundary: DecodeEncodeAgree,
ArrayReadsReturnRegisters, ArrayWritesStoreWhileIdle, GatedWritesDroppedWhileBusy, ReadOnlyWritesDropped. -/
theorem witness_present :
    Instr.rdParam11.present cfgT = true ∧ Instr.rdParam10.present cfgTen = true ∧
    [Instr.rdParam11, .wrParam11 1#32, .rdTx12, .wrTx12 1#32, .rdRx12, .wrRx12 1#32].all
      (fun i => i.present cfgT && !i.present cfgTen) = true := by decide

/-- Frames whose checksum stands at word 12 and at word 11: CodecFunctions, SingleBitErrorsDetected. -/
theorem witness_CodecFunctions :
    cfgT.nP = 11 ∧ (12 : Fin 13).val = cfgT.nP.val + 1 ∧ cfgTen.nP = 10 ∧ (11 : Fin 13).val = cfgTen.nP.val + 1 := by
  decide

/-- An idle state: WrCtrlRunsTheCommand, ScalarWritesStoreWhileIdle, ArrayWritesStoreWhileIdle, EncodeAndVerifyCommands,
NopAndClearStatusCommands, PackAndUnpackDefaultLayout, LongCommandsStart, WireOpcodesWhileIdle, PackingRoundTrips. -/
theorem witness_idle :
    s0.estate = .idle ∧ s0.cfg.psetLayout = Config.defaultPsetLayout ∧ s0.cfg.psetLayout.toList.Nodup := by decide

/-- A busy state: GatedWritesDroppedWhileBusy and CommandsRejectedWhileBusyOrReserved, the latter also with the first
reserved value. -/
theorem witness_busyOrReserved : (inHandshake .hsOuterPoll).estate ≠ .idle ∧ 8 < (9#32 : Word).toNat := by decide

/-- A step of the window and a step outside it: StepAlwaysAnswers. -/
theorem witness_StepAlwaysAnswers :
    nextSat (step { s0 with inputs := [.host (Access.rd 0x1FC)] }) (fun t => t.inputs == []) = true ∧
    step { s0 with inputs := [.host (Access.rd 0x200)] } = .fault (.outsideWindow 0x200) := by
  exact ⟨by decide +kernel, rfl⟩

/-- HS_INNER_SETTLE with an environment that completes. -/
theorem witness_WireOpcodesSettle :
    (present notReady (inHandshake .hsInnerSettle)).estate = .hsInnerSettle ∧
    (present notReady (inHandshake .hsInnerSettle)).port.completes = true := by decide

/-- HS_OUTER_XFER with a verified reply of each named opcode. -/
theorem witness_WireOpcodesAcknowledge :
    [(frameNone, cfgT.opcNone), (frameReportInfo, cfgT.opcReportInfo), (frameSetup, cfgT.opcSetup),
      (frameListening, cfgT.opcListening), (frameBlListening, cfgT.opcBlListening), (frameEraseAll, cfgT.opcBlEraseAll),
      (frameWriteFirmware, cfgT.opcBlWriteFirmware)].all (fun p =>
        let s := present (answerWith p.1) (inHandshake .hsOuterXfer)
        s.estate == .hsOuterXfer && s.port.completes && s.port.ok && verifyFrame s.cfg s.port.reply &&
          s.port.reply[0] == p.2) = true := by decide +kernel

/-- HS_INNER_XFER of a HANDSHAKE with a verified reply of each named opcode, the probe's own or another. -/
theorem witness_WireOpcodesEcho :
    [(frameNone, cfgT.opcNone), (frameReportInfo, cfgT.opcReportInfo), (frameSetup, cfgT.opcSetup),
      (frameListening, cfgT.opcListening), (frameBlListening, cfgT.opcBlListening), (frameEraseAll, cfgT.opcBlEraseAll),
      (frameWriteFirmware, cfgT.opcBlWriteFirmware)].all (fun p =>
        [p.1, frameF].all (fun probe =>
          let s := present (answerWith p.1) { inHandshake .hsInnerXfer with tx := probe }
          s.estate == .hsInnerXfer && s.eop == .handshake && s.port.completes && s.port.ok &&
            verifyFrame s.cfg s.port.reply && s.port.reply[0] == p.2)) = true := by decide +kernel

/-- Each long command at the end of a handshake. -/
theorem witness_HandshakeFinish :
    (inHandshake .hsOuterCheck).eop = .handshake ∧ (inCommand .identify 0#32 .hsOuterCheck).eop = .identify ∧
    (inCommand .configure 0#32 .hsOuterCheck).eop = .configure := by decide

/-- Each microstate of the outer loop, the budget at 0 and not, the poll ready and not, READY_COST reached and not. -/
theorem witness_OuterLoopSteps :
    (inHandshake .hsOuterCheck).estate = .hsOuterCheck ∧ (inHandshake .hsOuterSleep).estate = .hsOuterSleep ∧
    (inHandshake .hsOuterPoll).estate = .hsOuterPoll ∧ notReady.completes = true ∧ notReady.ready = false ∧
    (answerWith frameSetup).completes = true ∧ (answerWith frameSetup).ready = true ∧
    (inHandshake .hsOuterCheck).outerRemain ≠ 0#32 ∧
    ({ inHandshake .hsOuterCheck with outerRemain := 0#32 } : State).outerRemain = 0#32 := by decide

/-- A completed transfer, good and failed. -/
theorem witness_OuterTransferStep :
    (inHandshake .hsOuterXfer).estate = .hsOuterXfer ∧ (answerWith frameListening).completes = true ∧
    (answerWith frameListening).ok = true ∧ verifyFrame cfgT frameListening = true ∧
    frameListening[0] = (inHandshake .hsOuterXfer).cfg.opcListening ∧ failed.completes = true ∧ failed.ok = false := by
  decide +kernel

/-- Each microstate of the inner loop, INNER_COUNT below INNER_BUDGET and at it. -/
theorem witness_InnerLoopSteps :
    (inHandshake .hsInnerCheck).estate = .hsInnerCheck ∧ (inHandshake .hsInnerSettle).estate = .hsInnerSettle ∧
    (inHandshake .hsInnerSleep).estate = .hsInnerSleep ∧ (inHandshake .hsInnerPoll).estate = .hsInnerPoll ∧
    notReady.completes = true ∧
    ¬ (inHandshake .hsInnerCheck).innerBudget ≤ (inHandshake .hsInnerCheck).innerCount ∧
    ({ inHandshake .hsInnerCheck with innerBudget := 1#32 } : State).innerBudget ≤ 1#32 := by decide

/-- A completed transfer of the inner loop, good and failed. -/
theorem witness_InnerTransferStep :
    (inHandshake .hsInnerXfer).estate = .hsInnerXfer ∧ (answerWith frameSetup).completes = true ∧
    (answerWith frameSetup).ok = true ∧ verifyFrame cfgT frameSetup = true ∧ failed.completes = true ∧
    failed.ok = false := by decide +kernel

/-- Each microstate of the sequencer, attempt 0 and attempt 1 of CONFIGURE. -/
theorem witness_SequencerSteps :
    (inCommand .configure 0#32 .sqStart).estate = .sqStart ∧ (inCommand .configure 1#32 .sqStart).attempt.toNat = 1 ∧
    (inCommand .configure 1#32 .sqReset).estate = .sqReset ∧ (inCommand .configure 1#32 .sqBackoff).estate = .sqBackoff ∧
    notReady.completes = true := by decide

/-- SQ_EVAL of each sequencer, after a good and a failed handshake, at its last attempt and before it. -/
theorem witness_SequencerEvaluation :
    (inCommand .identify 3#32 .sqEval).estate = .sqEval ∧ (inCommand .identify 4#32 .sqEval).eop = .identify ∧
    (inCommand .configure 8#32 .sqEval).estate = .sqEval ∧ (inCommand .configure 9#32 .sqEval).eop = .configure ∧
    (inCommand .identify 3#32 .sqEval).hsRes = .ok := by decide

/-- Each clause of BadAccessesEndInBusError at the ends of its range, for both values of `N_P`. -/
theorem witness_BadAccessesEndInBusError :
    [(11, { Access.rd 0x004 with width := .w16 }), (11, Access.rd 0x006), (11, Access.rd 0x03C), (11, Access.rd 0x070),
      (11, Access.rd 0x07C), (11, Access.rd 0x0B4), (11, Access.rd 0x0BC), (11, Access.rd 0x0F4), (11, Access.rd 0x0FC),
      (11, Access.rd 0x128), (11, Access.rd 0x1FC), (10, Access.rd 0x06C), (10, Access.rd 0x0B0),
      (10, Access.rd 0x0F0)].all
      (fun (n, a) => decide (a.off < 0x200) && (a.width != .w32 || a.off % 4 != 0 || a.off == 0x03C ||
        (decide (0x044 + 4 * n ≤ a.off) && decide (a.off ≤ 0x07C)) ||
        (decide (0x088 + 4 * n ≤ a.off) && decide (a.off ≤ 0x0BC)) ||
        (decide (0x0C8 + 4 * n ≤ a.off) && decide (a.off ≤ 0x0FC)) || decide (0x128 ≤ a.off))) = true ∧
    0x200 ≤ (Access.rd 0x200).off := by decide

/-- The state after reset. -/
theorem witness_ResetValues : ∃ s : State, s = State.reset := ⟨State.reset, rfl⟩

/-- The invariant holds at an idle state. -/
theorem witness_Inv_idle : Inv s0 := by
  constructor <;> decide +kernel

/-- The invariant holds at a busy state, and the engine has a step there: StepKeepsInv, LongCommandsTerminate. -/
theorem witness_Inv_busy :
    Inv (inCommand .configure 9#32 .sqBackoff) ∧ Inv (inHandshake .hsInnerXfer) ∧
    nextSat (act (.engine (answerWith frameSetup)) (inHandshake .hsInnerXfer)) (fun t => t.estate == .idle) = true := by
  refine ⟨?_, ?_, by decide +kernel⟩ <;> constructor <;> decide +kernel

/-- Two configurations with the same checksum, and a verified frame: EncodedFramesVerify, SingleBitErrorsDetected. -/
theorem witness_verifiedFrame :
    cfgT.nP = ({ cfgT with opcNone := 5#32 } : Config).nP ∧
    cfgT.crcPoly = ({ cfgT with opcNone := 5#32 } : Config).crcPoly ∧
    cfgT.crcInit = ({ cfgT with opcNone := 5#32 } : Config).crcInit ∧ cfgT.crcPoly = 0x04C11DB7#32 ∧
    verifyFrame cfgT frameF = true := by decide +kernel

/-- Each way TX changes: OnlyFourCommandsWriteTx. -/
theorem witness_OnlyFourCommandsWriteTx :
    [1#32, 3#32, 4#32, 5#32].all (fun v => nextSat (step { s0 with inputs := [.host (Access.wr 0x000 v)] })
      (fun t => t.tx != s0.tx)) = true ∧
    nextSat (step { inHandshake .hsOuterPoll with inputs := [.blockReset] })
      (fun t => t.tx != (inHandshake .hsOuterPoll).tx) = true := by decide +kernel

/-- Each way VERSION changes: OnlyIdentifyWritesVersion. -/
theorem witness_OnlyIdentifyWritesVersion :
    nextSat (step { inCommand .identify 0#32 .sqEval with
        rx := frameReportInfo.set 1 0xC8#32, inputs := [.engine notReady] }) (fun t => t.version != 9999#16) = true ∧
    nextSat (step { s0 with version := 5#16, inputs := [.blockReset] }) (fun t => t.version != 5#16) = true := by
  decide +kernel

/-- Each command that leaves IDLE: IdleIsLeftOnlyByLongCommands. -/
theorem witness_IdleIsLeftOnlyByLongCommands :
    [3#32, 4#32, 5#32].all (fun v => nextSat (step { s0 with inputs := [.host (Access.wr 0x000 v)] })
      (fun t => t.estate != .idle)) = true := by decide +kernel

/-- A step to a next state: ConstantsNeverChange. -/
theorem witness_ConstantsNeverChange :
    nextSat (step { s0 with inputs := [.host (Access.wr 0x020 1#32)] }) (fun t => t.cfg == cfgT) = true := by
  decide +kernel

/-- A host access while busy that changes a register of the host's own units: HostCannotDisturbABusyEngine. -/
theorem witness_HostCannotDisturbABusyEngine :
    (inHandshake .hsOuterPoll).estate ≠ .idle ∧
    nextSat (act (.host (Access.wr 0x010 7#32)) (inHandshake .hsOuterPoll)) (fun t => t.pk == 7#32) = true := by
  decide +kernel

/-- Two states that only the host's units tell apart: EngineIgnoresHostUnits. -/
theorem witness_EngineIgnoresHostUnits :
    engineView (inHandshake .hsOuterPoll) = engineView { inHandshake .hsOuterPoll with crcAcc := 1#32, pk := 2#32 } ∧
    inHandshake .hsOuterPoll ≠ { inHandshake .hsOuterPoll with crcAcc := 1#32, pk := 2#32 } := by decide +kernel

/-- A step that handles the very value of OPC_NONE: OpcNoneIsReadByNoRule. -/
theorem witness_OpcNoneIsReadByNoRule :
    nextSat (act (.engine (answerWith frameNone)) (inHandshake .hsOuterXfer)) (fun t => t.rx == frameNone) = true := by
  decide +kernel

/-- Every microstate that waits for the environment, the settle of both administrative probes included. -/
theorem witness_UncompletedTransactionsWait :
    silent.completes = false ∧
    [EState.hsOuterSleep, .hsOuterPoll, .hsOuterXfer, .hsInnerSleep, .hsInnerPoll, .hsInnerXfer, .sqReset, .sqBackoff].all
      (fun e => (inHandshake e).estate.issuesTransaction) = true ∧
    ({ inHandshake .hsInnerSettle with tx := frameEraseAll } : State).tx[0] = cfgT.opcBlEraseAll ∧
    ({ inHandshake .hsInnerSettle with tx := frameWriteFirmware } : State).tx[0] = cfgT.opcBlWriteFirmware := by decide

/-- Every microstate of the inner loop. -/
theorem witness_InnerLoopNeverReturnsToOuter :
    [EState.hsInnerCheck, .hsInnerSettle, .hsInnerSleep, .hsInnerPoll, .hsInnerXfer].all
      (fun e => (inHandshake e).estate.inInnerLoop) = true := by decide

/-- Environments that complete every transaction, never ready and always ready: NeverReadyHandshakeTimesOut,
ExhaustedSequencersEnd, HandshakeIsBounded, LongCommandsTerminate, HandshakeIsOneFunction. -/
theorem witness_environments :
    Oracle.Completes (fun _ => notReady) ∧ (∀ n : Nat, ((fun _ => notReady : Oracle) n).ready = false) ∧
    Oracle.Completes (fun n => if n < 3 then answerWith frameListening else answerWith frameSetup) := by
  refine ⟨fun _ => rfl, fun _ => rfl, fun n => ?_⟩
  by_cases h : n < 3 <;> simp [h, answerWith]

/-- H1, S4 and S2 with OUTER_BUDGET = 1: the never-ready runs end where the statements say. -/
theorem witness_neverReadyRuns :
    nextSat (exec .handshake { s0 with outerBudget := 1#32 }) (fun t =>
      nextSat (engineRun (fun _ => notReady) 4 t) (fun u =>
        statusWord u == 0x40#32 && u.trace == neverReadyTrace 1)) = true ∧
    nextSat (exec .identify { s0 with outerBudget := 1#32 }) (fun t =>
      nextSat (engineRun (fun _ => notReady) 30 t) (fun u => statusWord u == 0xA0#32 && u.attempt == 4#32)) = true ∧
    nextSat (exec .configure { s0 with outerBudget := 1#32 }) (fun t =>
      nextSat (engineRun (fun _ => notReady) 78 t) (fun u =>
        statusWord u == 0xE0#32 && u.trace == exhaustedTrace 1 10)) = true := by
  decide +kernel

/-- A handshake at its first check, as HandshakeIsOneFunction wants it. -/
theorem witness_HandshakeIsOneFunction :
    ({ inHandshake .hsOuterCheck with outerRemain := 5000#32, innerCount := 0#32 } : State).outerRemain =
      (inHandshake .hsOuterCheck).outerBudget ∧ (inHandshake .hsOuterCheck).estate = .hsOuterCheck := by decide

/-- Both listening acknowledgements, a reply with the probe's opcode, and both budgets at 1: FastestHandshake. -/
theorem witness_FastestHandshake :
    [frameListening, frameBlListening].all (fun l =>
      let s : State := { s0 with opcode := 0x7A#32, outerBudget := 1#32, innerBudget := 1#32 }
      s.estate == .idle && s.outerBudget != 0#32 && s.innerBudget != 0#32 && verifyFrame s.cfg l &&
        (l[0] == s.cfg.opcListening || l[0] == s.cfg.opcBlListening) && verifyFrame s.cfg frameSetup &&
        frameSetup[0] == s.opcode) = true := by decide +kernel

end Sys2Proof.Tests
end

section
/-! SUPPORT. What one step can do, said once: the effect of a host access, the rule of an engine step, and the inversion of
`step` that every statement about all steps goes through (00_scope.md R9, R16). -/

namespace Sys2Proof.Machine

open Sys2Proof

/-! ### The rows a host access can decode to -/

/-- Every row of the ACCESS table builds an instruction whose word is an ACCESS word (R81): no CMD and no WIRE row. -/
theorem accessRows_build_access (cfg : Config) (data : Word) :
    ∀ r ∈ accessRows, ∃ w, encode cfg (r.build data) = .access w := by
  repeat refine List.forall_mem_cons.2 ⟨⟨_, rfl⟩, ?_⟩
  exact List.forall_mem_nil _

/-- An instruction of a host access is an ACCESS row (R94). -/
theorem decodeAccess_access {cfg : Config} {w : BitVec 42} {i : Instr} (h : decodeAccess cfg w = some i) :
    ∃ v, encode cfg i = .access v := by
  unfold decodeAccess at h
  split at h
  · obtain ⟨r, hr, rfl⟩ := Option.map_eq_some_iff.1 h
    exact accessRows_build_access cfg _ r (List.mem_of_find?_eq_some hr)
  · contradiction

theorem decodeBus_instr {cfg : Config} {a : Access} {i : Instr} (h : decodeBus cfg a = .instr i) :
    decodeAccess cfg a.word = some i := by
  unfold decodeBus at h
  repeat' split at h
  all_goals simp_all

/-- The block leaves an access undecoded only outside the window (R63). -/
theorem decodeBus_outside {cfg : Config} {a : Access} (h : decodeBus cfg a = .outside) : 0x200 ≤ a.off := by
  unfold decodeBus at h
  repeat' split at h
  all_goals simp_all

/-! ### The effect of a host access -/

/-- An access to a register changes what its body changes, or is BusError, which changes only the log (R250). -/
theorem accessReg_induction {P : State → Prop} {r : Reg} {body : State → State} {s : State}
    (present : r.present s.cfg = true → P (body s)) (absent : P (raiseBusError r.offset s)) : P (accessReg r body s) := by
  unfold accessReg
  split
  · exact present ‹_›
  · exact absent

/-- The pseudocode of each command, as an accepted CTRL write performs it (R230 to R232). -/
def commandBody : Command → State → State
  | .nop, s => s
  | .encode, s => { loadProbe s.opcode s.param s with result := .ok }
  | .verify, s => { rxCheck s.opcode true s with result := .ok }
  | .handshake, s => hsBegin (beginLong .handshake (loadProbe s.opcode s.param s))
  | .identify, s => goto .sqStart (beginLong .identify (loadProbe s.cfg.opcReportInfo zeroParams s))
  | .configure, s => goto .sqStart (beginLong .configure (loadProbe s.cfg.opcSetup s.param s))
  | .packPset, s => { s with param := packPset s.cfg s.pset s.param, result := .ok }
  | .unpackPset, s => { s with pset := unpackPset s.cfg s.param, result := .ok }
  | .clearStatus, s => clearStatusFields s

/-- A command's row issues the command's pseudocode. -/
theorem exec_command (c : Command) (s : State) : exec c.toInstr s = .next (issueCommand c (commandBody c) s) := by
  cases c <;> rfl

/-- A CTRL write of a command's value issues that command (R232). -/
theorem exec_wrCtrl_command {data : Word} {c : Command} (h : decodeCommand data = some c) (s : State) :
    exec (.wrCtrl data) s = .next (issueCommand c (commandBody c) s) := by
  have : exec (.wrCtrl data) s = exec c.toInstr s := by
    change execWrCtrl data s = _
    unfold execWrCtrl
    rw [h]
    cases c <;> rfl
  rw [this, exec_command]

/-- A CTRL write of a reserved value is rejected (R233). -/
theorem exec_wrCtrl_reserved {data : Word} (h : decodeCommand data = none) (s : State) :
    exec (.wrCtrl data) s = .next (logBus (.written Reg.ctrl.offset data) (reject s)) := by
  change execWrCtrl data s = _
  unfold execWrCtrl
  rw [h]

/-- What the row `i` of a host access can do to the block: a read (R234), a gated write (R235), a write to a read-only
register (R236), a write of the host's own CRC and PK units (R111, R112, R141 to R143), a command (R232), a rejection
(R233). -/
inductive HostEffect (s : State) : Instr → State → Prop
  | read (i : Instr) (r : Reg) : HostEffect s i (hostRead r s)
  | gated (i : Instr) (r : Reg) (v : Word) : HostEffect s i (gatedWrite r v s)
  | readOnly (i : Instr) (r : Reg) (v : Word) : HostEffect s i (readOnlyWrite r v s)
  | units (i : Instr) (e : BusEvent) (acc pk : Word) : HostEffect s i (logBus e { s with crcAcc := acc, pk := pk })
  | command {data : Word} {c : Command} (h : decodeCommand data = some c) :
    HostEffect s (.wrCtrl data) (issueCommand c (commandBody c) s)
  | reserved {data : Word} (h : decodeCommand data = none) :
    HostEffect s (.wrCtrl data) (logBus (.written Reg.ctrl.offset data) (reject s))

/-- CRC_CTRL, and so every write of a host unit, changes CRC_ACC and PK at most (R111). -/
theorem exec_crcReset (data : Word) (s : State) :
    exec (.crcReset data) s = .next (logBus (.written Reg.crcCtrl.offset data)
      { s with crcAcc := if data.extractLsb' 0 1 = 1#1 then s.cfg.crcInit else s.crcAcc }) := by
  change execCrcReset data s = _
  unfold execCrcReset
  split <;> rfl

/-- Every row of a host access answers a next state, by one of the effects. -/
theorem exec_hostEffect {cfg : Config} {w : BitVec 42} (i : Instr) (s : State) (h : encode cfg i = .access w) :
    ∃ t, exec i s = .next t ∧ HostEffect s i t := by
  cases i with
  | rdCtrl | rdStatus | rdCrcCtrl | crcRead | pkRead | pkHiRead | pkLoRead | rdVersion | rdOuterBudget
  | rdInnerBudget | rdReadyCost | rdMinFw | rdOuterRemain | rdInnerCount | rdAttempt | rdOpcode | rdParam1
  | rdParam2 | rdParam3 | rdParam4 | rdParam5 | rdParam6 | rdParam7 | rdParam8 | rdParam9 | rdParam10 | rdParam11
  | rdTx0 | rdTx1 | rdTx2 | rdTx3 | rdTx4 | rdTx5 | rdTx6 | rdTx7 | rdTx8 | rdTx9 | rdTx10 | rdTx11 | rdTx12
  | rdRx0 | rdRx1 | rdRx2 | rdRx3 | rdRx4 | rdRx5 | rdRx6 | rdRx7 | rdRx8 | rdRx9 | rdRx10 | rdRx11 | rdRx12
  | rdPset0 | rdPset1 | rdPset2 | rdPset3 | rdPset4 | rdPset5 | rdPset6 | rdPset7 | rdPset8 | rdPset9 =>
    exact ⟨_, rfl, .read _ _⟩
  | wrOuterBudget data | wrInnerBudget data | wrReadyCost data | wrMinFw data | wrOpcode data | wrParam1 data
  | wrParam2 data | wrParam3 data | wrParam4 data | wrParam5 data | wrParam6 data | wrParam7 data | wrParam8 data
  | wrParam9 data | wrParam10 data | wrParam11 data | wrRx0 data | wrRx1 data | wrRx2 data | wrRx3 data
  | wrRx4 data | wrRx5 data | wrRx6 data | wrRx7 data | wrRx8 data | wrRx9 data | wrRx10 data | wrRx11 data
  | wrRx12 data | wrPset0 data | wrPset1 data | wrPset2 data | wrPset3 data | wrPset4 data | wrPset5 data
  | wrPset6 data | wrPset7 data | wrPset8 data | wrPset9 data => exact ⟨_, rfl, .gated _ _ _⟩
  | wrStatus data | wrVersion data | wrOuterRemain data | wrInnerCount data | wrAttempt data | wrTx0 data
  | wrTx1 data | wrTx2 data | wrTx3 data | wrTx4 data | wrTx5 data | wrTx6 data | wrTx7 data | wrTx8 data
  | wrTx9 data | wrTx10 data | wrTx11 data | wrTx12 data => exact ⟨_, rfl, .readOnly _ _ _⟩
  | crcReset data => exact ⟨_, exec_crcReset data s, .units _ _ _ _⟩
  | crcFeed data | pkWrite data | pkHiWrite data | pkLoWrite data => exact ⟨_, rfl, .units _ _ _ _⟩
  | wrCtrl data =>
    cases hc : decodeCommand data with
    | some c => exact ⟨_, exec_wrCtrl_command hc s, .command hc⟩
    | none => exact ⟨_, exec_wrCtrl_reserved hc s, .reserved hc⟩
  | nop | encode | verify | handshake | identify | configure | packPset | unpackPset | clearStatus | opcNone
  | opcReportInfo | opcSetup | opcListening | opcBlListening | opcBlEraseAll | opcBlWriteFirmware => nomatch h

/-! ### Transactions -/

/-- The block after a completed Exchange and the check that follows it, before the engine decides (R165, R166, R119). -/
def exchanged (s : State) : State :=
  rxCheck s.tx[0] s.port.ok (receive (emit (.exchange s.tx (if s.port.ok then some (replyFrame s) else none)) s))

/-- A transaction does what its continuation does, or nothing (R161, R169). -/
theorem transact_induction {P : State → Prop} {e : PortEvent} {k : State → State} {s : State} (waits : P s)
    (completes : P (k (emit e s))) : P (transact e k s) := by
  unfold transact
  split
  · exact completes
  · exact waits

/-- A poll goes on with either answer, or waits (R163, R169). -/
theorem readyThen_induction {P : State → Prop} {k : Bool → State → State} {s : State} (waits : P s)
    (answers : ∀ b, P (k b (emit (.ready b) s))) : P (readyThen k s) :=
  transact_induction waits (answers s.port.ready)

/-- A transfer goes on from `exchanged`, or waits (R165, R169). -/
theorem exchangeThen_induction {P : State → Prop} {k : State → State} {s : State} (waits : P s)
    (completes : P (k (exchanged s))) : P (exchangeThen k s) := by
  cases hc : s.port.completes with
  | true => rwa [exchangeThen_completes k s hc]
  | false =>
    have hw : exchangeThen k s = s := transact_waits _ _ s hc
    rwa [hw]

/-! ### The rule of an engine step -/

/-- A step that handles a FRAME word 0 is a step of a busy engine: while idle the engine looks at no wire opcode. -/
theorem busy_of_wireWord {s : State} {op : Word} (h : wireWord s = some op) : s.busy = true := by
  rw [busy_iff]
  intro he
  rw [wireWord_none s (by simp [he]) (by simp [he]) (by simp [he])] at h
  contradiction

/-- Meeting the FRAME word 0 that the step handles is following the microstate (R186, R189, R192). -/
theorem meetOpcode_wireWord {s : State} {op : Word} (h : wireWord s = some op) : meetOpcode op s = engineStep s := by
  have hreply (hw : (if s.port.completes && s.port.ok then some s.port.reply[0] else none) = some op) :
      withReplyOpcode op s = s := by
    split at hw
    · exact withReplyOpcode_self op s (Option.some.inj hw)
    · contradiction
  unfold wireWord at h
  unfold meetOpcode engineStep
  cases he : s.estate <;> simp only [he] at h ⊢
  case hsInnerSettle =>
    cases h
    rfl
  case hsOuterXfer => rw [hreply h]
  case hsInnerXfer => rw [hreply h]
  all_goals contradiction

theorem exec_opcReportInfo_busy {s : State} (hb : s.busy = true) :
    exec .opcReportInfo s = .next (meetOpcode s.cfg.opcReportInfo s) := by
  simp [exec, execOpcReportInfo, hb]

theorem exec_opcSetup_busy {s : State} (hb : s.busy = true) :
    exec .opcSetup s = .next (meetOpcode s.cfg.opcSetup s) := by
  simp [exec, execOpcSetup, hb]

/-- While busy the WIRE row of a FRAME word 0 is the engine meeting that word (R87; log 15). -/
theorem exec_decodeWire {s : State} {op : Word} {i : Instr} (hb : s.busy = true) (h : decodeWire s.cfg op = some i) :
    exec i s = .next (meetOpcode op s) := by
  unfold decodeWire at h
  split at h
  case isTrue hop => cases h; rw [hop, exec_opcReportInfo_busy hb]
  split at h
  case isTrue hop => cases h; rw [hop, exec_opcSetup_busy hb]
  split at h
  case isTrue hop => cases h; rw [hop]; rfl
  split at h
  case isTrue hop => cases h; rw [hop]; rfl
  split at h
  case isTrue hop => cases h; rw [hop]; rfl
  split at h
  case isTrue hop => cases h; rw [hop]; rfl
  split at h
  case isTrue hop => cases h; rw [hop]; rfl
  contradiction

/-- While idle the engine meets no wire opcode (R181). -/
theorem meetOpcode_idle {s : State} (h : s.estate = .idle) (op : Word) : meetOpcode op s = s := by
  unfold meetOpcode
  rw [h]

/-- Settles O27: while idle the two probe rows build their probes, and the other five meet no opcode. -/
theorem wireOpcodesWhileIdle : Obligations.WireOpcodesWhileIdle := by
  unfold Obligations.WireOpcodesWhileIdle
  intro s hi
  have hb : s.busy = false := (not_busy_iff s).2 hi
  refine ⟨?_, ?_, ?_⟩
  · simp [exec, execOpcReportInfo, hb, loadProbe, zeroParams]
  · simp [exec, execOpcSetup, hb, loadProbe]
  · simp [exec, execOpcNone, execOpcListening, execOpcBlListening, execOpcBlEraseAll, execOpcBlWriteFirmware,
      meetOpcode_idle hi]

/-- An engine step that handles a named FRAME word 0 runs the WIRE row (R87). -/
theorem act_engine_wire {ans : EnvAnswer} {s : State} {op : Word} {i : Instr}
    (hw : wireWord { s with port := ans } = some op) (hd : decodeWire s.cfg op = some i) :
    act (.engine ans) s = exec i { s with port := ans } := by
  simp [act, step, fetch, schedule, fetchEngine, hw, hd]

/-- An engine step that handles an opcode no rule names is its microstate's rule (R88). -/
theorem act_engine_unnamed {ans : EnvAnswer} {s : State} {op : Word}
    (hw : wireWord { s with port := ans } = some op) (hd : decodeWire s.cfg op = none) :
    act (.engine ans) s = .next (engineStep { s with port := ans }) := by
  simp [act, step, fetch, schedule, fetchEngine, hw, hd]

/-- Settles O7: where the step runs no WIRE row it is the microstate's rule by definition, and the WIRE row of the word the
step handles is the engine meeting that word. -/
theorem engineStepsFollowTheMicrostate : Obligations.EngineStepsFollowTheMicrostate := by
  unfold Obligations.EngineStepsFollowTheMicrostate
  intro s ans
  cases hw : wireWord { s with port := ans } with
  | none => exact act_engine_plain ans s hw
  | some op =>
    cases hd : decodeWire s.cfg op with
    | none => exact act_engine_unnamed hw hd
    | some i => rw [act_engine_wire hw hd, exec_decodeWire (busy_of_wireWord hw) hd, meetOpcode_wireWord hw]

/-! ### One step -/

/-- With nothing scheduled a step does nothing (log 6). -/
theorem step_nothing {s : State} (h : s.inputs = []) : step s = .next s := by
  simp [step, fetch, h]

/-- A step is the step of the agent whose entry is next, at the state with that entry taken off (R9, R70). -/
theorem step_eq_act {s : State} {i : Input} {rest : List Input} (h : s.inputs = i :: rest) :
    step s = act i { s with inputs := rest } := by
  have hs : schedule i { s with inputs := rest } = s := by simp [schedule, ← h]
  rw [act, hs]

/-- Settles O6: the entry is taken off, and the access's row or the WIRE row of the word handled is what runs. -/
theorem stepRunsDecodedInstruction : Obligations.StepRunsDecodedInstruction := by
  unfold Obligations.StepRunsDecodedInstruction
  refine ⟨fun s a rest i hin hd => ?_, fun s ans rest op i hin hw hd => ?_⟩
  · exact (step_eq_act hin).trans (act_host_instr a i _ hd)
  · exact (step_eq_act hin).trans (act_engine_wire hw hd)

/-- What a step can do: nothing where nothing is scheduled (log 6), else a host access by its row (R94) or to BusError
(R250), the rule of the engine's microstate (R40), or block reset (R270). -/
inductive StepEffect (s : State) : State → Prop
  | nothing (hin : s.inputs = []) : StepEffect s s
  | access {a : Access} {rest : List Input} {i : Instr} {t : State} (hin : s.inputs = .host a :: rest)
    (hd : decodeBus s.cfg a = .instr i) (he : HostEffect { s with inputs := rest } i t) : StepEffect s t
  | busError {a : Access} {rest : List Input} {c : BusErrorCause} (hin : s.inputs = .host a :: rest)
    (hd : decodeBus s.cfg a = .busError c) : StepEffect s (raiseBusError a.off { s with inputs := rest })
  | engine {ans : EnvAnswer} {rest : List Input} (hin : s.inputs = .engine ans :: rest) :
    StepEffect s (engineStep { s with inputs := rest, port := ans })
  | blockReset {rest : List Input} (hin : s.inputs = .blockReset :: rest) :
    StepEffect s (blockReset { s with inputs := rest })

/-- A step answers a next state by one of the effects, but for a host access outside the window (R16, R63). -/
theorem step_stepEffect (s : State) :
    (∃ t, step s = .next t ∧ StepEffect s t) ∨
    (∃ a rest, s.inputs = .host a :: rest ∧ 0x200 ≤ a.off ∧ step s = .fault (.outsideWindow a.off)) := by
  cases hin : s.inputs with
  | nil => exact .inl ⟨s, step_nothing hin, .nothing hin⟩
  | cons i rest =>
    rw [step_eq_act hin]
    cases i with
    | host a =>
      cases hd : decodeBus s.cfg a with
      | instr i =>
        obtain ⟨w, hw⟩ := decodeAccess_access (decodeBus_instr hd)
        obtain ⟨t, ht, he⟩ := exec_hostEffect i { s with inputs := rest } hw
        exact .inl ⟨t, (act_host_instr a i { s with inputs := rest } hd).trans ht, .access hin hd he⟩
      | busError c => exact .inl ⟨_, act_host_busError a c { s with inputs := rest } hd, .busError hin hd⟩
      | outside => exact .inr ⟨a, rest, rfl, decodeBus_outside hd, act_host_outside a { s with inputs := rest } hd⟩
    | engine ans => exact .inl ⟨_, engineStepsFollowTheMicrostate _ ans, .engine hin⟩
    | blockReset => exact .inl ⟨_, act_blockReset _, .blockReset hin⟩

/-- The inversion of a step that answers a next state. -/
theorem stepEffect_of_next {s t : State} (h : step s = .next t) : StepEffect s t := by
  rcases step_stepEffect s with ⟨u, hu, he⟩ | ⟨a, rest, -, -, hf⟩
  · rw [hu] at h
    cases h
    exact he
  · rw [hf] at h
    contradiction

/-- Settles O9: the effects of a step, without what they are. -/
theorem stepAlwaysAnswers : Obligations.StepAlwaysAnswers := by
  unfold Obligations.StepAlwaysAnswers
  intro s
  exact (step_stepEffect s).imp_left fun ⟨t, ht, _⟩ => ⟨t, ht⟩

end Sys2Proof.Machine
end

section
/-! SUPPORT. The frame of every step: what the engine leaves unchanged (R41, R54), and the constants (00_scope.md R8). -/

namespace Sys2Proof.Machine

open Sys2Proof

/-! ### The frame of an engine step -/

/-- `t` differs from `s` at most in what the engine's rules write: neither the constants, nor the host's own units and sticky
flags, nor a register the host writes other than RX, nor TX (R41, R54). -/
structure EngineFrame (s t : State) : Prop where
  cfg : t.cfg = s.cfg
  cmdRejected : t.cmdRejected = s.cmdRejected
  werr : t.werr = s.werr
  crcAcc : t.crcAcc = s.crcAcc
  pk : t.pk = s.pk
  outerBudget : t.outerBudget = s.outerBudget
  innerBudget : t.innerBudget = s.innerBudget
  readyCost : t.readyCost = s.readyCost
  minFw : t.minFw = s.minFw
  opcode : t.opcode = s.opcode
  param : t.param = s.param
  tx : t.tx = s.tx
  pset : t.pset = s.pset
  busLog : t.busLog = s.busLog
  inputs : t.inputs = s.inputs
  port : t.port = s.port

theorem EngineFrame.refl (s : State) : EngineFrame s s := by constructor <;> rfl

theorem outerCheck_frame (s : State) : EngineFrame s (outerCheck s) := by
  unfold outerCheck
  split <;> constructor <;> simp

theorem outerSleep_frame (s : State) : EngineFrame s (outerSleep s) := by
  unfold outerSleep sleepThen
  refine transact_induction (P := EngineFrame s) (.refl s) ?_
  constructor <;> rfl

theorem outerPoll_frame (s : State) : EngineFrame s (outerPoll s) := by
  refine readyThen_induction (P := EngineFrame s) (.refl s) fun b => ?_
  cases b <;> constructor <;> rfl

theorem outerXfer_frame (s : State) : EngineFrame s (outerXfer s) := by
  refine exchangeThen_induction (P := EngineFrame s) (.refl s) ?_
  split <;> constructor <;> simp [exchanged]

theorem innerCheck_frame (s : State) : EngineFrame s (innerCheck s) := by
  unfold innerCheck
  split <;> constructor <;> simp

theorem innerSleep_frame (s : State) : EngineFrame s (innerSleep s) := by
  refine transact_induction (P := EngineFrame s) (.refl s) ?_
  constructor <;> rfl

/-- The settle of an inner attempt, for any probe opcode (R189). -/
theorem innerSettle_frame (op : Word) (s : State) : EngineFrame s (innerSettle op s) := by
  have hsettle (ms : Word) : EngineFrame s (sleepThen ms (goto .hsInnerSleep) s) :=
    transact_induction (.refl s) (by constructor <;> rfl)
  unfold innerSettle
  split
  · exact hsettle _
  split
  · exact hsettle _
  · constructor <;> rfl

theorem innerPoll_frame (s : State) : EngineFrame s (innerPoll s) := by
  refine readyThen_induction (P := EngineFrame s) (.refl s) fun b => ?_
  cases b <;> constructor <;> rfl

theorem innerXfer_frame (s : State) : EngineFrame s (innerXfer s) := by
  refine exchangeThen_induction (P := EngineFrame s) (.refl s) ?_
  split <;> constructor <;> simp [exchanged]

theorem sqStart_frame (s : State) : EngineFrame s (sqStart s) := by
  unfold sqStart
  split <;> constructor <;> rfl

theorem sqReset_frame (s : State) : EngineFrame s (sqReset s) := by
  refine transact_induction (P := EngineFrame s) (.refl s) ?_
  constructor <;> rfl

theorem sqBackoff_frame (s : State) : EngineFrame s (sqBackoff s) := by
  refine transact_induction (P := EngineFrame s) (.refl s) ?_
  constructor <;> rfl

theorem evalIdentify_frame (s : State) : EngineFrame s (evalIdentify s) := by
  unfold evalIdentify
  repeat' split
  all_goals constructor <;> rfl

theorem evalConfigure_frame (s : State) : EngineFrame s (evalConfigure s) := by
  unfold evalConfigure
  repeat' split
  all_goals constructor <;> rfl

theorem sqEval_frame (s : State) : EngineFrame s (sqEval s) := by
  unfold sqEval
  split
  · exact evalIdentify_frame s
  · exact evalConfigure_frame s
  all_goals exact .refl s

/-- What every engine step leaves unchanged. -/
theorem engineStep_frame (s : State) : EngineFrame s (engineStep s) := by
  unfold engineStep
  cases s.estate with
  | idle => exact .refl s
  | hsOuterCheck => exact outerCheck_frame s
  | hsOuterSleep => exact outerSleep_frame s
  | hsOuterPoll => exact outerPoll_frame s
  | hsOuterXfer => exact outerXfer_frame s
  | hsInnerCheck => exact innerCheck_frame s
  | hsInnerSettle => exact innerSettle_frame _ s
  | hsInnerSleep => exact innerSleep_frame s
  | hsInnerPoll => exact innerPoll_frame s
  | hsInnerXfer => exact innerXfer_frame s
  | sqStart => exact sqStart_frame s
  | sqReset => exact sqReset_frame s
  | sqBackoff => exact sqBackoff_frame s
  | sqEval => exact sqEval_frame s

/-! ### The constants of the block -/

@[simp] theorem storeReg_cfg (r : Reg) (v : Word) (s : State) : (storeReg r v s).cfg = s.cfg := by
  cases r <;> rfl

@[simp] theorem commandBody_cfg (c : Command) (s : State) : (commandBody c s).cfg = s.cfg := by
  cases c <;> rfl

theorem hostEffect_cfg {s t : State} {i : Instr} (h : HostEffect s i t) : t.cfg = s.cfg := by
  cases h with
  | read i r => exact accessReg_induction (P := fun u => u.cfg = s.cfg) (fun _ => rfl) rfl
  | gated i r v =>
    refine accessReg_induction (P := fun u => u.cfg = s.cfg) (fun _ => ?_) rfl
    split <;> simp
  | readOnly i r v => exact accessReg_induction (P := fun u => u.cfg = s.cfg) (fun _ => rfl) rfl
  | units i e acc pk => rfl
  | command hc =>
    unfold issueCommand
    split <;> simp
  | reserved hc => rfl

/-- Settles O48: no effect of a step writes a constant. -/
theorem constantsNeverChange : Obligations.ConstantsNeverChange := by
  unfold Obligations.ConstantsNeverChange
  intro s t h
  cases stepEffect_of_next h with
  | nothing hin => rfl
  | access hin hd he =>
    have hcfg := hostEffect_cfg he
    exact hcfg
  | busError hin hd => rfl
  | engine hin => exact (engineStep_frame _).cfg
  | blockReset hin => rfl

end Sys2Proof.Machine
end

section
/-! SUPPORT. The facts about PARAM, TX and RX that the invariant of the block needs: what the frame encoder, PACK_PSET and a
transfer leave in the words past those that exist (R11, R21), and that an encoded frame verifies (40_frame_codec.md R123). -/

namespace Sys2Proof.Machine

open Sys2Proof

/-- The checksum looks at the words 0 to `N_P` only (R113). -/
theorem crcFrame_congr {cfg : Config} {f g : Frame} (h : ∀ j (hj : j < 13), j ≤ cfg.nP.val → f[j] = g[j]) :
    crcFrame cfg f = crcFrame cfg g := by
  unfold crcFrame crcWords
  congr 1
  apply List.ext_getElem
  · simp
  · intro j h1 h2
    simp only [Config.crcWordCount, List.length_take, Vector.length_toList] at h1
    simpa using h j (by omega) (by omega)

/-- The opcode and the parameter words of a frame, before their checksum is put in its place (R115). -/
def uncheckedFrame (o : Word) (p : Params) : Frame :=
  #v[o, p[0], p[1], p[2], p[3], p[4], p[5], p[6], p[7], p[8], p[9], p[10], 0#32]

theorem encodeFrame_eq (cfg : Config) (o : Word) (p : Params) :
    encodeFrame cfg o p = (trimFrame cfg (uncheckedFrame o p)).set cfg.crcIndex (crcWords cfg (o :: p.toList)) := rfl

theorem uncheckedFrame_toList (o : Word) (p : Params) : (uncheckedFrame o p).toList = o :: p.toList ++ [0#32] := by
  apply List.ext_getElem
  · simp
  · intro j h1 h2
    simp only [Vector.length_toList] at h1
    interval_cases j <;> simp [uncheckedFrame]

/-- The checksum of an encoded frame is that of its opcode and parameter words (R113, R115). -/
theorem crcFrame_encodeFrame (cfg : Config) (o : Word) (p : Params) :
    crcFrame cfg (encodeFrame cfg o p) = crcWords cfg (o :: p.toList) := by
  have hwords : crcFrame cfg (encodeFrame cfg o p) = crcFrame cfg (uncheckedFrame o p) := by
    refine crcFrame_congr fun j hj hle => ?_
    have hne : cfg.crcIndex.val ≠ j := by
      simp only [Config.crcIndex, Fin.val_succ]
      omega
    have hlt : j < cfg.frameWords := by
      simp only [Config.frameWords]
      omega
    simp [encodeFrame_eq, hne, hlt]
  have hcount : cfg.crcWordCount ≤ (o :: p.toList).length := by
    simp only [Config.crcWordCount, List.length_cons, Vector.length_toList]
    omega
  rw [hwords, crcFrame, crcWords, uncheckedFrame_toList, List.take_append_of_le_length hcount, crcWords]

theorem encodeFrame_opcode (cfg : Config) (o : Word) (p : Params) : (encodeFrame cfg o p)[0] = o := by
  simp [encodeFrame_eq, uncheckedFrame, Config.crcIndex]

theorem encodeFrame_crcIndex (cfg : Config) (o : Word) (p : Params) :
    (encodeFrame cfg o p)[cfg.crcIndex] = crcWords cfg (o :: p.toList) := by
  simp [encodeFrame_eq]

/-- The words past the checksum of an encoded frame are not there (R82). -/
theorem encodeFrame_absent (cfg : Config) (o : Word) (p : Params) (j : Fin 13) (h : cfg.frameWords ≤ j.val) :
    (encodeFrame cfg o p)[j] = 0#32 := by
  have hne : cfg.crcIndex.val ≠ j.val := by
    simp only [Config.crcIndex, Config.frameWords, Fin.val_succ] at h ⊢
    omega
  simp [encodeFrame_eq, hne, h]

/-- An encoded frame verifies (R123). -/
theorem verifyFrame_encodeFrame (cfg : Config) (o : Word) (p : Params) :
    verifyFrame cfg (encodeFrame cfg o p) = true := by
  rw [verifyFrame, crcFrame_encodeFrame, encodeFrame_crcIndex, beq_self_eq_true]

/-- The words past the checksum of a trimmed frame are not there (R82). -/
theorem trimFrame_absent (cfg : Config) (f : Frame) (j : Fin 13) (h : cfg.frameWords ≤ j.val) :
    (trimFrame cfg f)[j] = 0#32 := by
  simp [h]

/-- What a transfer leaves in RX is one frame, the reply or the draws (R165, R166). -/
theorem receive_rx_absent (s : State) (j : Fin 13) (h : s.cfg.frameWords ≤ j.val) : (receive s).rx[j] = 0#32 := by
  unfold receive
  split
  · exact trimFrame_absent s.cfg s.port.reply j h
  · exact trimFrame_absent s.cfg _ j h

/-- PACK_PSET writes only PARAM words that PSET_LAYOUT names (R146). -/
theorem packPset_unnamed (cfg : Config) (pset : Vector Sub16 10) (param : Params) (i : Fin 11)
    (h : ∀ k : Fin 10, (cfg.psetLayout[k]).1 ≠ i) : (packPset cfg pset param)[i] = param[i] := by
  unfold packPset
  induction List.finRange 10 generalizing param with
  | nil => rfl
  | cons k ks ih =>
    have hk : (cfg.psetLayout[k]).1.val ≠ i.val := Fin.val_ne_of_ne (h k)
    rw [List.foldl_cons, ih]
    exact Vector.getElem_set_ne _ i.isLt hk

end Sys2Proof.Machine
end

section
/-! SUPPORT. The invariant of the block (`Inv`), taken apart into what holds in every state, what holds of a running long
command, and what its microstate adds; and its proof along every step (00_scope.md R17; 44_attempt_sequencer.md R211 to
R213). -/

namespace Sys2Proof.Machine

open Sys2Proof

/-! ### The invariant by microstate -/

/-- What holds idle or busy: the constants are well formed, and the words past those that exist hold 0 (R6, R21). -/
structure Stored (s : State) : Prop where
  cfgWf : s.cfg.wf
  absentParam : ∀ i : Fin 11, s.cfg.nP.val ≤ i.val → s.param[i] = 0#32
  absentTx : ∀ j : Fin 13, s.cfg.frameWords ≤ j.val → s.tx[j] = 0#32
  absentRx : ∀ j : Fin 13, s.cfg.frameWords ≤ j.val → s.rx[j] = 0#32

/-- What holds of a long command in every microstate: the probe in TX, the attempt count, no RESULT yet (R41, R44, R275). -/
structure Running (s : State) : Prop extends Stored s where
  eop : s.eop ≠ .none
  result : s.result = .none
  handshakeAttempt : s.eop = .handshake → s.attempt = 0#32
  identifyAttempt : s.eop = .identify → s.attempt.toNat < 5
  configureAttempt : s.eop = .configure → s.attempt.toNat < 10
  probe : verifyFrame s.cfg s.tx = true
  identifyProbe : s.eop = .identify → s.tx[0] = s.cfg.opcReportInfo
  configureProbe : s.eop = .configure → s.tx[0] = s.cfg.opcSetup

/-- The counters of a handshake are within their budgets (R196). -/
def WithinBudgets (s : State) : Prop :=
  s.outerRemain.toNat ≤ s.outerBudget.toNat ∧ s.innerCount.toNat ≤ s.innerBudget.toNat

/-- What the microstate `e` adds for a running command (R183, R188, R210, R211, R216). -/
def AtMicrostate (e : EState) (s : State) : Prop :=
  match e with
  | .idle => False
  | .hsOuterCheck | .hsOuterPoll | .hsOuterXfer | .hsInnerCheck => WithinBudgets s
  | .hsOuterSleep => WithinBudgets s ∧ s.outerRemain ≠ 0#32
  | .hsInnerSettle | .hsInnerSleep | .hsInnerPoll | .hsInnerXfer => WithinBudgets s ∧ s.innerCount ≠ 0#32
  | .sqStart | .sqEval => s.eop = .identify ∨ s.eop = .configure
  | .sqReset | .sqBackoff => s.eop = .configure ∧ 1 ≤ s.attempt.toNat

section

variable {s : State}

theorem Inv.stored (h : Inv s) : Stored s := { h with }

/-- The invariant at a busy state, taken apart. -/
theorem Inv.running (h : Inv s) (hb : s.estate ≠ .idle) : Running s :=
  { h.stored with
    eop := fun he => hb (h.eopIdle.1 he)
    result := h.resultNone hb
    handshakeAttempt := h.handshakeAttempt
    identifyAttempt := h.identifyAttempt
    configureAttempt := h.configureAttempt
    probe := h.probeWellFormed hb
    identifyProbe := h.identifyProbe
    configureProbe := h.configureProbe }

theorem Inv.withinBudgets (h : Inv s) (he : s.estate.inHandshake = true) : WithinBudgets s :=
  ⟨h.remainBound he, h.countBound he⟩

theorem Inv.atMicrostate (h : Inv s) {e : EState} (he : s.estate = e) (hb : e ≠ .idle) : AtMicrostate e s := by
  subst he
  have hw := h.withinBudgets
  cases hs : s.estate <;> rw [hs] at hw
  case idle => exact absurd hs hb
  case hsOuterCheck | hsOuterPoll | hsOuterXfer | hsInnerCheck => exact hw rfl
  case hsOuterSleep => exact ⟨hw rfl, h.sleepCredit hs⟩
  case hsInnerSettle | hsInnerSleep | hsInnerPoll | hsInnerXfer => exact ⟨hw rfl, h.attemptCounted (by rw [hs]; rfl)⟩
  case sqStart | sqEval => exact h.sequencerOp (by rw [hs]; rfl)
  case sqReset => exact h.resetOp (.inl hs)
  case sqBackoff => exact h.resetOp (.inr hs)

/-- The invariant in the microstate `e`, as its rule uses it. -/
theorem Inv.busy (h : Inv s) {e : EState} (he : s.estate = e) (hb : e ≠ .idle) : Running s ∧ AtMicrostate e s :=
  ⟨h.running (he ▸ hb), h.atMicrostate he hb⟩

theorem AtMicrostate.withinBudgets {e : EState} (h : AtMicrostate e s) (he : e.inHandshake = true) : WithinBudgets s := by
  cases e with
  | hsOuterCheck | hsOuterPoll | hsOuterXfer | hsInnerCheck => exact h
  | hsOuterSleep | hsInnerSettle | hsInnerSleep | hsInnerPoll | hsInnerXfer => exact h.1
  | idle | sqStart | sqReset | sqBackoff | sqEval => contradiction

theorem AtMicrostate.attemptCounted {e : EState} (h : AtMicrostate e s) (he : e.inInnerAttempt = true) :
    s.innerCount ≠ 0#32 := by
  cases e with
  | hsInnerSettle | hsInnerSleep | hsInnerPoll | hsInnerXfer => exact h.2
  | idle | hsOuterCheck | hsOuterSleep | hsOuterPoll | hsOuterXfer | hsInnerCheck | sqStart | sqReset | sqBackoff
  | sqEval => contradiction

theorem AtMicrostate.sequencerOp {e : EState} (h : AtMicrostate e s) (he : e.inSequencer = true) :
    s.eop = .identify ∨ s.eop = .configure := by
  cases e with
  | sqStart | sqEval => exact h
  | sqReset | sqBackoff => exact .inr h.1
  | idle | hsOuterCheck | hsOuterSleep | hsOuterPoll | hsOuterXfer | hsInnerCheck | hsInnerSettle | hsInnerSleep
  | hsInnerPoll | hsInnerXfer => contradiction

theorem AtMicrostate.resetOp {e : EState} (h : AtMicrostate e s) (he : e = .sqReset ∨ e = .sqBackoff) :
    s.eop = .configure ∧ 1 ≤ s.attempt.toNat := by
  rcases he with rfl | rfl <;> exact h

theorem AtMicrostate.sleepCredit {e : EState} (h : AtMicrostate e s) (he : e = .hsOuterSleep) : s.outerRemain ≠ 0#32 := by
  subst he
  exact h.2

/-- The invariant at a busy state, put together. -/
theorem Running.inv (h : Running s) (he : AtMicrostate s.estate s) : Inv s :=
  have hb : s.estate ≠ .idle := fun hi => by rw [hi] at he; exact he
  { h.toStored with
    eopIdle := iff_of_false h.eop hb
    resultNone := fun _ => h.result
    sequencerOp := he.sequencerOp
    resetOp := he.resetOp
    handshakeAttempt := h.handshakeAttempt
    identifyAttempt := h.identifyAttempt
    configureAttempt := h.configureAttempt
    remainBound := fun hs => (he.withinBudgets hs).1
    countBound := fun hs => (he.withinBudgets hs).2
    sleepCredit := he.sleepCredit
    attemptCounted := he.attemptCounted
    probeWellFormed := fun _ => h.probe
    identifyProbe := h.identifyProbe
    configureProbe := h.configureProbe }

/-- The invariant at an idle state: every clause about a running command is vacuous (R45). -/
theorem Stored.inv (h : Stored s) (he : s.estate = .idle) (hop : s.eop = .none) : Inv s where
  cfgWf := h.cfgWf
  absentParam := h.absentParam
  absentTx := h.absentTx
  absentRx := h.absentRx
  eopIdle := iff_of_true hop he
  resultNone := (absurd he ·)
  sequencerOp := by simp [he, EState.inSequencer]
  resetOp := by simp [he]
  handshakeAttempt := by simp [hop]
  identifyAttempt := by simp [hop]
  configureAttempt := by simp [hop]
  remainBound := by simp [he, EState.inHandshake]
  countBound := by simp [he, EState.inHandshake]
  sleepCredit := by simp [he]
  attemptCounted := by simp [he, EState.inInnerAttempt]
  probeWellFormed := (absurd he ·)
  identifyProbe := by simp [hop]
  configureProbe := by simp [hop]

/-! ### The engine's rules -/

/-- A running command enters the microstate `e` (R40). -/
theorem goto_inv (h : Running s) {e : EState} (he : AtMicrostate e s) : Inv (goto e s) := by
  have hr : Running (goto e s) := { h with }
  refine hr.inv ?_
  cases e <;> exact he

/-- The end of a long command (R195, R212, R213). -/
theorem endLong_inv (h : Stored s) (r : ResultCode) : Inv (endLong r s) :=
  have hs : Stored (endLong r s) := { h with }
  hs.inv rfl rfl

/-- The end of a handshake: of the HANDSHAKE command, or of an attempt of a sequencer (R195). -/
theorem hsFinish_inv (h : Running s) (res : HsResult) : Inv (hsFinish res s) := by
  have hr : Running { s with hsRes := res } := { h with }
  cases hop : s.eop with
  | none => exact absurd hop h.eop
  | handshake =>
    rw [hsFinish_handshake res s hop]
    exact endLong_inv h.toStored _
  | identify =>
    rw [hsFinish_sequencer res s (by simp [hop])]
    exact goto_inv hr (e := .sqEval) (.inl hop)
  | configure =>
    rw [hsFinish_sequencer res s (by simp [hop])]
    exact goto_inv hr (e := .sqEval) (.inr hop)

/-- A handshake begins with its whole outer budget and no inner attempt (R197). -/
theorem hsBegin_inv (h : Running s) : Inv (hsBegin s) := by
  have hr : Running { s with outerRemain := s.outerBudget, innerCount := 0#32 } := { h with }
  exact goto_inv hr (e := .hsOuterCheck) ⟨le_rfl, Nat.zero_le _⟩

/-- A transfer writes RX and the receive flags only (R166, R119). -/
theorem exchanged_running (h : Running s) : Running (exchanged s) where
  cfgWf := by simpa [exchanged] using h.cfgWf
  absentParam := by simpa [exchanged] using h.absentParam
  absentTx := by simpa [exchanged] using h.absentTx
  absentRx j hj := by
    rw [show (exchanged s).rx = (receive (emit _ s)).rx from rxCheck_rx _ _ _]
    exact receive_rx_absent _ j (by simpa [exchanged] using hj)
  eop := by simpa [exchanged] using h.eop
  result := by simpa [exchanged] using h.result
  handshakeAttempt := by simpa [exchanged] using h.handshakeAttempt
  identifyAttempt := by simpa [exchanged] using h.identifyAttempt
  configureAttempt := by simpa [exchanged] using h.configureAttempt
  probe := by simpa [exchanged] using h.probe
  identifyProbe := by simpa [exchanged] using h.identifyProbe
  configureProbe := by simpa [exchanged] using h.configureProbe

@[simp] theorem withinBudgets_exchanged : WithinBudgets (exchanged s) ↔ WithinBudgets s := by
  simp [WithinBudgets, exchanged]

/-- R182: no budget left ends the handshake, else the engine sleeps with credit. -/
theorem outerCheck_inv (h : Inv s) (he : s.estate = .hsOuterCheck) : Inv (outerCheck s) := by
  obtain ⟨hr, hw⟩ := h.busy he nofun
  unfold outerCheck
  split
  · exact hsFinish_inv hr _
  · exact goto_inv hr ⟨hw, ‹_›⟩

/-- R183: the unit of budget the sleep takes is there. -/
theorem outerSleep_inv (h : Inv s) (he : s.estate = .hsOuterSleep) : Inv (outerSleep s) := by
  obtain ⟨hr, hw, hcredit⟩ := h.busy he nofun
  unfold outerSleep sleepThen
  refine transact_induction h ?_
  have hr' : Running { emit (.sleep pollMs) s with outerRemain := s.outerRemain - 1#32 } := { hr with }
  have hremain : (s.outerRemain - 1#32).toNat ≤ s.outerBudget.toNat := by
    have := hw.1
    bv_omega
  exact goto_inv hr' (e := .hsOuterPoll) ⟨hremain, hw.2⟩

theorem satSub_toNat_le (a b : Word) : (satSub a b).toNat ≤ a.toNat := by
  unfold satSub
  split
  · bv_omega
  · exact Nat.zero_le _

/-- R184, R185: a ready poll costs READY_COST, saturating. -/
theorem outerPoll_inv (h : Inv s) (he : s.estate = .hsOuterPoll) : Inv (outerPoll s) := by
  obtain ⟨hr, hw⟩ := h.busy he nofun
  refine readyThen_induction h fun b => ?_
  cases b with
  | false =>
    have hr' : Running (emit (.ready false) s) := { hr with }
    exact goto_inv hr' (e := .hsOuterCheck) hw
  | true =>
    have hr' : Running { emit (.ready true) s with outerRemain := satSub s.outerRemain s.readyCost } := { hr with }
    exact goto_inv hr' (e := .hsOuterXfer) ⟨(satSub_toNat_le _ _).trans hw.1, hw.2⟩

/-- R186, R187: the inner loop starts with no attempt counted. -/
theorem outerXfer_inv (h : Inv s) (he : s.estate = .hsOuterXfer) : Inv (outerXfer s) := by
  obtain ⟨hr, hw⟩ := h.busy he nofun
  have hx := exchanged_running hr
  have hwx : WithinBudgets (exchanged s) := withinBudgets_exchanged.2 hw
  refine exchangeThen_induction (P := Inv) h ?_
  split
  · have hr' : Running { exchanged s with innerCount := 0#32 } := { hx with }
    exact goto_inv hr' (e := .hsInnerCheck) ⟨hwx.1, Nat.zero_le _⟩
  · exact goto_inv hx (e := .hsOuterCheck) hwx

/-- R188: an attempt is counted only below the inner budget, so the count does not wrap. -/
theorem innerCheck_inv (h : Inv s) (he : s.estate = .hsInnerCheck) : Inv (innerCheck s) := by
  obtain ⟨hr, hw⟩ := h.busy he nofun
  unfold innerCheck
  split
  · exact hsFinish_inv hr _
  · rename_i hlt
    have hr' : Running { s with innerCount := s.innerCount + 1#32 } := { hr with }
    have hcount : (s.innerCount + 1#32).toNat ≤ s.innerBudget.toNat := by bv_omega
    have hcounted : s.innerCount + 1#32 ≠ 0#32 := by bv_omega
    exact goto_inv hr' (e := .hsInnerSettle) ⟨⟨hw.1, hcount⟩, hcounted⟩

/-- R189, for any probe opcode. -/
theorem innerSettle_inv (h : Inv s) (he : s.estate = .hsInnerSettle) (op : Word) : Inv (innerSettle op s) := by
  obtain ⟨hr, hw⟩ := h.busy he nofun
  have hsettle (ms : Word) : Inv (sleepThen ms (goto .hsInnerSleep) s) :=
    have hr' : Running (emit (.sleep ms) s) := { hr with }
    transact_induction h (goto_inv hr' (e := .hsInnerSleep) hw)
  unfold innerSettle
  split
  · exact hsettle _
  split
  · exact hsettle _
  · exact goto_inv hr (e := .hsInnerSleep) hw

/-- R190. -/
theorem innerSleep_inv (h : Inv s) (he : s.estate = .hsInnerSleep) : Inv (innerSleep s) := by
  obtain ⟨hr, hw⟩ := h.busy he nofun
  have hr' : Running (emit (.sleep pollMs) s) := { hr with }
  exact transact_induction h (goto_inv hr' (e := .hsInnerPoll) hw)

/-- R191. -/
theorem innerPoll_inv (h : Inv s) (he : s.estate = .hsInnerPoll) : Inv (innerPoll s) := by
  obtain ⟨hr, hw⟩ := h.busy he nofun
  refine readyThen_induction h fun b => ?_
  have hr' : Running (emit (.ready b) s) := { hr with }
  cases b with
  | false => exact goto_inv hr' (e := .hsInnerCheck) hw.1
  | true => exact goto_inv hr' (e := .hsInnerXfer) hw

/-- R192. -/
theorem innerXfer_inv (h : Inv s) (he : s.estate = .hsInnerXfer) : Inv (innerXfer s) := by
  obtain ⟨hr, hw, -⟩ := h.busy he nofun
  have hx := exchanged_running hr
  refine exchangeThen_induction (P := Inv) h ?_
  split
  · exact hsFinish_inv hx _
  · exact goto_inv hx (e := .hsInnerCheck) (withinBudgets_exchanged.2 hw)

/-- R211: a device reset comes before a CONFIGURE attempt `a >= 1` only. -/
theorem sqStart_inv (h : Inv s) (he : s.estate = .sqStart) : Inv (sqStart s) := by
  obtain ⟨hr, -⟩ := h.busy he nofun
  unfold sqStart
  split
  · rename_i hc
    exact goto_inv hr (e := .sqReset) ⟨hc.1, by simpa [BitVec.le_def] using hc.2⟩
  · exact hsBegin_inv hr

/-- R214. -/
theorem sqReset_inv (h : Inv s) (he : s.estate = .sqReset) : Inv (sqReset s) := by
  obtain ⟨hr, hop⟩ := h.busy he nofun
  have hr' : Running (emit .resetDev s) := { hr with }
  exact transact_induction h (goto_inv hr' (e := .sqBackoff) hop)

/-- R215. -/
theorem sqBackoff_inv (h : Inv s) (he : s.estate = .sqBackoff) : Inv (sqBackoff s) := by
  obtain ⟨hr, -⟩ := h.busy he nofun
  have hr' : Running (emit (.sleep (backoffDuration s.attempt)) s) := { hr with }
  exact transact_induction h (hsBegin_inv hr')

/-- The attempt after one that is not the last (R212). -/
theorem evalIdentify_inv (h : Running s) (hop : s.eop = .identify) : Inv (evalIdentify s) := by
  have hend (v : Sub16) (r : ResultCode) : Inv (endLong r { s with version := v }) :=
    have hs : Stored { s with version := v } := { h.toStored with }
    endLong_inv hs r
  unfold evalIdentify
  split
  · split <;> exact hend _ _
  split
  · exact hend _ _
  · rename_i hlast
    have hr : Running { s with attempt := s.attempt + 1#32 } := { h with
      handshakeAttempt := by simp [hop]
      identifyAttempt := fun _ => by simpa [idAttempts, BitVec.le_def] using hlast
      configureAttempt := by simp [hop] }
    exact goto_inv hr (e := .sqStart) (.inl hop)

/-- The attempt after one that is not the last (R213). -/
theorem evalConfigure_inv (h : Running s) (hop : s.eop = .configure) : Inv (evalConfigure s) := by
  unfold evalConfigure
  split
  · exact endLong_inv h.toStored _
  split
  · exact endLong_inv h.toStored _
  · rename_i hlast
    have hr : Running { s with attempt := s.attempt + 1#32 } := { h with
      handshakeAttempt := by simp [hop]
      identifyAttempt := by simp [hop]
      configureAttempt := fun _ => by simpa [cfgAttempts, BitVec.le_def] using hlast }
    exact goto_inv hr (e := .sqStart) (.inr hop)

/-- R212, R213. -/
theorem sqEval_inv (h : Inv s) (he : s.estate = .sqEval) : Inv (sqEval s) := by
  obtain ⟨hr, hop⟩ := h.busy he nofun
  unfold sqEval
  rcases hop with hop | hop <;> rw [hop]
  · exact evalIdentify_inv hr hop
  · exact evalConfigure_inv hr hop

/-- Every engine step keeps the invariant. -/
theorem engineStep_inv (h : Inv s) : Inv (engineStep s) := by
  unfold engineStep
  cases he : s.estate with
  | idle => exact h
  | hsOuterCheck => exact outerCheck_inv h he
  | hsOuterSleep => exact outerSleep_inv h he
  | hsOuterPoll => exact outerPoll_inv h he
  | hsOuterXfer => exact outerXfer_inv h he
  | hsInnerCheck => exact innerCheck_inv h he
  | hsInnerSettle => exact innerSettle_inv h he _
  | hsInnerSleep => exact innerSleep_inv h he
  | hsInnerPoll => exact innerPoll_inv h he
  | hsInnerXfer => exact innerXfer_inv h he
  | sqStart => exact sqStart_inv h he
  | sqReset => exact sqReset_inv h he
  | sqBackoff => exact sqBackoff_inv h he
  | sqEval => exact sqEval_inv h he

/-! ### The host's accesses -/

/-- The schedule is no part of the block (log 6). -/
theorem inputs_inv (h : Inv s) (rest : List Input) : Inv { s with inputs := rest } := { h with }

theorem logBus_inv (h : Inv s) (e : BusEvent) : Inv (logBus e s) := { h with }

theorem dropWrite_inv (h : Inv s) : Inv (dropWrite s) := { h with }

theorem reject_inv (h : Inv s) : Inv (reject s) := { h with }

/-- A write reaches only words that exist (R21). -/
theorem storeReg_stored (h : Stored s) {r : Reg} (hp : r.present s.cfg = true) (v : Word) : Stored (storeReg r v s) := by
  cases r with
  | param i =>
    refine { h with absentParam := fun k hk => ?_ }
    have hne : i.val ≠ k.val := (Nat.lt_of_lt_of_le (of_decide_eq_true hp) hk).ne
    exact (Vector.getElem_set_ne i.isLt k.isLt hne).trans (h.absentParam k hk)
  | rx j =>
    refine { h with absentRx := fun k hk => ?_ }
    have hne : j.val ≠ k.val := (Nat.lt_of_lt_of_le (of_decide_eq_true hp) hk).ne
    exact (Vector.getElem_set_ne j.isLt k.isLt hne).trans (h.absentRx k hk)
  | ctrl | status | crcCtrl | crcData | pk | pkHi | pkLo | version | outerBudget | innerBudget | readyCost | minFw
  | outerRemain | innerCount | attempt | opcode | tx j | pset k => exact { h with }

/-- A gated write while idle (R235). -/
theorem storeReg_inv (h : Inv s) (hi : s.estate = .idle) {r : Reg} (hp : r.present s.cfg = true) (v : Word) :
    Inv (storeReg r v s) := by
  have hop : s.eop = .none := h.eopIdle.2 hi
  refine (storeReg_stored h.stored hp v).inv ?_ ?_
  · cases r <;> exact hi
  · cases r <;> exact hop

theorem loadProbe_stored (h : Stored s) (o : Word) (p : Params) : Stored (loadProbe o p s) :=
  { h with absentTx := encodeFrame_absent s.cfg o p }

/-- A long command starts with its probe in TX and attempt 0 (R180, R210, R216). -/
theorem beginLong_running (h : Stored s) {op : EOp} {o : Word} (p : Params) (hop : op ≠ .none)
    (hid : op = .identify → o = s.cfg.opcReportInfo) (hcfg : op = .configure → o = s.cfg.opcSetup) :
    Running (beginLong op (loadProbe o p s)) :=
  { loadProbe_stored h o p with
    eop := hop
    result := rfl
    handshakeAttempt := fun _ => rfl
    identifyAttempt := fun _ => Nat.zero_lt_succ 4
    configureAttempt := fun _ => Nat.zero_lt_succ 9
    probe := verifyFrame_encodeFrame s.cfg o p
    identifyProbe := fun he => (encodeFrame_opcode s.cfg o p).trans (hid he)
    configureProbe := fun he => (encodeFrame_opcode s.cfg o p).trans (hcfg he) }

/-- PACK_PSET writes only PARAM words that exist (R145). -/
theorem packPset_stored (h : Stored s) : Stored { s with param := packPset s.cfg s.pset s.param } := by
  refine { h with absentParam := fun i hi => ?_ }
  refine (packPset_unnamed s.cfg s.pset s.param i fun k hk => ?_).trans (h.absentParam i hi)
  obtain ⟨-, -, hrange⟩ := h.cfgWf
  exact absurd (hk ▸ hrange k) (Nat.not_lt.2 hi)

/-- A command while idle (R232). -/
theorem commandBody_inv (h : Inv s) (hi : s.estate = .idle) (c : Command) : Inv (commandBody c s) := by
  have hs := h.stored
  have hop : s.eop = .none := h.eopIdle.2 hi
  cases c with
  | nop => exact h
  | encode => exact Stored.inv { loadProbe_stored hs s.opcode s.param with } hi hop
  | verify => exact Stored.inv { hs with } hi hop
  | handshake => exact hsBegin_inv (beginLong_running hs (op := .handshake) s.param nofun nofun nofun)
  | identify =>
    exact goto_inv (e := .sqStart)
      (beginLong_running hs (op := .identify) zeroParams nofun (fun _ => rfl) nofun) (.inl rfl)
  | configure =>
    exact goto_inv (e := .sqStart)
      (beginLong_running hs (op := .configure) s.param nofun nofun fun _ => rfl) (.inr rfl)
  | packPset => exact Stored.inv { packPset_stored hs with } hi hop
  | unpackPset => exact Stored.inv { hs with } hi hop
  | clearStatus => exact Stored.inv { hs with } hi hop

/-- Every host access keeps the invariant. -/
theorem hostEffect_inv {t : State} {i : Instr} (h : Inv s) (he : HostEffect s i t) : Inv t := by
  cases he with
  | read i r => exact accessReg_induction (P := Inv) (fun _ => logBus_inv h _) (logBus_inv h _)
  | gated i r v =>
    refine accessReg_induction (P := Inv) (fun hp => logBus_inv ?_ _) (logBus_inv h _)
    cases hb : s.busy with
    | true => exact dropWrite_inv h
    | false => exact storeReg_inv h ((not_busy_iff s).1 hb) hp v
  | readOnly i r v =>
    exact accessReg_induction (P := Inv) (fun _ => logBus_inv (dropWrite_inv h) _) (logBus_inv h _)
  | units i e acc pk => exact { h with }
  | command hc =>
    refine logBus_inv ?_ _
    cases hb : s.busy with
    | true => exact reject_inv h
    | false => exact commandBody_inv h ((not_busy_iff s).1 hb) _
  | reserved hc => exact logBus_inv (reject_inv h) _

/-! ### Reset, and every step -/

/-- The seven OPEN opcodes are seven values of a permutation, and the default layout names ten distinct halves of PARAM[1..5]
(R6, R145; log 2). -/
theorem chip_wf : Config.chip.wf := by
  refine ⟨?_, ?_, ?_⟩
  · have hargs : [0#32, 1#32, 2#32, 3#32, 4#32, 5#32, 6#32].Nodup := by decide
    exact hargs.map Config.openOpcode.injective
  · change Config.defaultPsetLayout.toList.Nodup
    decide
  · change ∀ k : Fin 10, (Config.defaultPsetLayout[k]).1.val < 11
    decide

theorem resetWith_stored {cfg : Config} (h : cfg.wf) : Stored (State.resetWith cfg) where
  cfgWf := h
  absentParam := by simp [State.resetWith]
  absentTx := by simp [State.resetWith]
  absentRx := by simp [State.resetWith]

theorem blockReset_inv (h : Inv s) : Inv (blockReset s) :=
  have hs : Stored (blockReset s) := { resetWith_stored h.cfgWf with }
  hs.inv rfl rfl

end

/-- Settles O38: reset is idle, and its words are 0. -/
theorem invHoldsAtReset : Obligations.InvHoldsAtReset := by
  unfold Obligations.InvHoldsAtReset
  exact (resetWith_stored chip_wf).inv rfl rfl

/-- Settles O39: the invariant does not read the schedule or the port, and each effect of a step keeps it. -/
theorem stepKeepsInv : Obligations.StepKeepsInv := by
  unfold Obligations.StepKeepsInv
  intro s t h hstep
  cases stepEffect_of_next hstep with
  | nothing hin => exact h
  | access hin hd he => exact hostEffect_inv (inputs_inv h _) he
  | busError hin hd => exact logBus_inv (inputs_inv h _) _
  | engine hin => exact engineStep_inv { h with }
  | blockReset hin => exact blockReset_inv (inputs_inv h _)

end Sys2Proof.Machine
end

section
/-! SUPPORT. The decoder and the encoder against each other (30_encoding.md R81, R84, R87, R94), and which host accesses decode
to a row (10_state.md R21; 20_memory.md R61 to R63). -/

namespace Sys2Proof.Machine

open Sys2Proof

/-! ### The rows of the ACCESS table -/

/-- No two rows have the same DIR and OFF (R94). -/
theorem accessRows_keys_nodup : (accessRows.map fun r => (r.dir, r.off)).Nodup := by decide +kernel

/-- The row that the decoder finds is the only one with that DIR and OFF. -/
theorem accessRows_find {r : AccessRow} (hr : r ∈ accessRows) :
    (accessRows.find? fun q => q.dir == r.dir && q.off == r.off) = some r := by
  cases hf : accessRows.find? fun q => q.dir == r.dir && q.off == r.off with
  | none =>
    have hself := List.find?_eq_none.1 hf r hr
    simp at hself
  | some q =>
    obtain ⟨hdir, hoff⟩ : q.dir = r.dir ∧ q.off = r.off := by simpa using List.find?_some hf
    have hq : q = r :=
      List.inj_on_of_nodup_map accessRows_keys_nodup (List.mem_of_find?_eq_some hf) hr (Prod.ext hdir hoff)
    rw [hq]

/-- The word of a row's instruction carries the row's DIR and OFF, and the operand of a write as DATA (R81). -/
theorem accessRows_encode (cfg : Config) (data : Word) : ∀ r ∈ accessRows,
    encode cfg (r.build data) = .access (accessWord r.dir r.off (if r.dir = .write then data else 0#32)) := by
  repeat refine List.forall_mem_cons.2 ⟨rfl, ?_⟩
  exact List.forall_mem_nil _

/-- The register of a row does not depend on the operand. -/
theorem accessRows_neededParams (data : Word) : ∀ r ∈ accessRows,
    (r.build data).neededParams = (r.build 0#32).neededParams := by
  repeat refine List.forall_mem_cons.2 ⟨rfl, ?_⟩
  exact List.forall_mem_nil _

/-- A row's offset is listed exactly for the `N_P` that give its register (R21). -/
theorem accessRows_listed_iff : ∀ r ∈ accessRows, ∀ n : Fin 12,
    offsetListed n.val r.off.toNat = decide ((r.build 0#32).neededParams ≤ n.val) := by decide +kernel

theorem accessRows_present (cfg : Config) (data : Word) {r : AccessRow} (hr : r ∈ accessRows) :
    (r.build data).present cfg = offsetListed cfg.nP.val r.off.toNat := by
  rw [Instr.present, accessRows_neededParams data r hr, accessRows_listed_iff r hr cfg.nP]

/-- Every aligned offset R21 lists for `N_P` = 11 has a row to read and a row to write. -/
theorem accessRows_cover (d : Dir) : ∀ k < 128, offsetListed 11 (4 * k) = true →
    ∃ r ∈ accessRows, r.dir = d ∧ r.off = BitVec.ofNat 9 (4 * k) := by
  cases d <;> decide +kernel

/-- An instruction whose word is an ACCESS word is that of a row (R94). -/
theorem mem_accessRows_of_encode {cfg : Config} {i : Instr} {w : BitVec 42} (h : encode cfg i = .access w) :
    i ∈ accessRows.map fun r => r.build (accessData w) := by
  cases i with
  | nop | encode | verify | handshake | identify | configure | packPset | unpackPset | clearStatus | opcNone
  | opcReportInfo | opcSetup | opcListening | opcBlListening | opcBlEraseAll | opcBlWriteFirmware => nomatch h
  | _ =>
    cases h
    rw [accessData_accessWord]
    repeat constructor

/-! ### Decode after encode -/

/-- The word of an ACCESS row decodes to the row's instruction, where the block has its register (R21, R94). -/
theorem decodeAccess_of_encode {cfg : Config} {i : Instr} {w : BitVec 42} (h : encode cfg i = .access w) :
    decodeAccess cfg w = if i.present cfg then some i else none := by
  obtain ⟨r, hr, hi⟩ := List.mem_map.1 (mem_accessRows_of_encode h)
  have hw : w = accessWord r.dir r.off (if r.dir = .write then accessData w else 0#32) := by
    have he := accessRows_encode cfg (accessData w) r hr
    rw [hi, h] at he
    exact Encoded.access.inj he
  have hdir : accessDir w = r.dir := by rw [hw, accessDir_accessWord]
  have hoff : accessOff w = r.off := by rw [hw, accessOff_accessWord]
  rw [decodeAccess, hdir, hoff, accessRows_find hr, Option.map_some, hi, ← hi, accessRows_present cfg _ hr]

/-- The value of a command decodes to it (R84, R85). -/
theorem decodeCommand_of_encode {cfg : Config} {i : Instr} {v : Word} (h : encode cfg i = .cmd v) :
    (decodeCommand v).map Command.toInstr = some i ∧ i.present cfg = true := by
  cases i with
  | nop | encode | verify | handshake | identify | configure | packPset | unpackPset | clearStatus =>
    cases h
    exact ⟨by decide, decide_eq_true (Nat.zero_le _)⟩
  | _ => nomatch h

/-- The seven wire opcodes are distinct, so the first one that matches is the right one (R87, R88). -/
theorem decodeWire_of_encode {cfg : Config} (hwf : cfg.wf) {i : Instr} {opc : Word} (h : encode cfg i = .wire opc) :
    decodeWire cfg opc = some i ∧ i.present cfg = true := by
  obtain ⟨hop, -, -⟩ := hwf
  simp only [Config.opcodes, List.nodup_cons, List.mem_cons, List.not_mem_nil, or_false, not_or] at hop
  cases i with
  | opcNone | opcReportInfo | opcSetup | opcListening | opcBlListening | opcBlEraseAll | opcBlWriteFirmware =>
    cases h
    refine ⟨?_, decide_eq_true (Nat.zero_le _)⟩
    grind [decodeWire]
  | _ => nomatch h

/-- Settles O1: by the format of the encoded word. -/
theorem decodeEncodeAgree : Obligations.DecodeEncodeAgree := by
  unfold Obligations.DecodeEncodeAgree
  intro cfg hwf i
  cases he : encode cfg i with
  | access w => exact decodeAccess_of_encode he
  | cmd v =>
    obtain ⟨hd, hp⟩ := decodeCommand_of_encode he
    rw [decode, hd, hp, if_pos rfl]
  | wire opc =>
    obtain ⟨hd, hp⟩ := decodeWire_of_encode hwf he
    rw [decode, hd, hp, if_pos rfl]

/-- Settles O5: fixed words, of which the decoder reads no parameter but `N_P`. -/
theorem wordsOfTheSpecDecode : Obligations.WordsOfTheSpecDecode := by
  unfold Obligations.WordsOfTheSpecDecode
  decide +kernel

/-! ### Encode after decode -/

/-- A decoded ACCESS word has the DIR and OFF of the instruction's own word, and a write its DATA (R81; log 14). -/
theorem encode_of_decodeAccess {cfg : Config} {w : BitVec 42} {i : Instr} (h : decodeAccess cfg w = some i) :
    encode cfg i =
      .access (accessWord (accessDir w) (accessOff w) (if accessDir w = .write then accessData w else 0#32)) := by
  unfold decodeAccess at h
  split at h
  · obtain ⟨r, hr, rfl⟩ := Option.map_eq_some_iff.1 h
    obtain ⟨hdir, hoff⟩ : r.dir = accessDir w ∧ r.off = accessOff w := by simpa using List.find?_some hr
    rw [accessRows_encode cfg _ r (List.mem_of_find?_eq_some hr), hdir, hoff]
  · contradiction

/-- A CMD value whose command decodes is that command's code: RES is 0, and OP is all there is beside it (R83, R85). -/
theorem code_of_decodeCommand {v : Word} {c : Command} (h : decodeCommand v = some c) : c.code = v := by
  unfold decodeCommand at h
  split at h
  · rename_i hres
    have hop : c.code.extractLsb' 0 4 = v.extractLsb' 0 4 := by simpa using List.find?_some h
    have hcode : c.code.toNat < 16 := by cases c <;> decide
    have hresNat := congrArg BitVec.toNat hres
    have hopNat := congrArg BitVec.toNat hop
    simp [Nat.shiftRight_eq_div_pow] at hresNat hopNat
    apply BitVec.eq_of_toNat_eq
    omega
  · contradiction

/-! ### The accesses that decode -/

theorem accessOff_word {a : Access} (h : a.off < 0x200) : (accessOff a.word).toNat = a.off := by
  rw [Access.word, accessOff_accessWord, BitVec.toNat_ofNat, Nat.mod_eq_of_lt h]

/-- The listed offsets are the aligned ones of five ranges (R21). -/
theorem offsetListed_iff_ranges (n off : Nat) : offsetListed n off = true ↔
    off % 4 = 0 ∧ (off ≤ 0x038 ∨ (0x040 ≤ off ∧ off ≤ 0x040 + 4 * n) ∨ (0x080 ≤ off ∧ off ≤ 0x080 + 4 * (n + 1)) ∨
      (0x0C0 ≤ off ∧ off ≤ 0x0C0 + 4 * (n + 1)) ∨ (0x100 ≤ off ∧ off ≤ 0x124)) := by
  simp [offsetListed, or_assoc]

/-- An offset listed for the block's `N_P` is listed for every larger one (R21). -/
theorem offsetListed_mono {n m off : Nat} (hnm : n ≤ m) (h : offsetListed n off = true) : offsetListed m off = true := by
  rw [offsetListed_iff_ranges] at h ⊢
  omega

/-- A host access that decodes to a row is 32 bits wide and inside the window (R61, R63). -/
theorem decodeBus_instr_form {cfg : Config} {a : Access} {i : Instr} (h : decodeBus cfg a = .instr i) :
    a.off < 0x200 ∧ a.width = .w32 := by
  unfold decodeBus at h
  repeat' split at h
  all_goals simp_all

/-- An ACCESS word decodes only at a listed offset (R63, R90). -/
theorem offsetListed_of_decodeAccess {cfg : Config} {w : BitVec 42} {i : Instr} (h : decodeAccess cfg w = some i) :
    offsetListed cfg.nP.val (accessOff w).toNat = true := by
  by_contra hl
  rw [decodeAccess_unlisted cfg w (by simpa using hl)] at h
  contradiction

/-- At every listed offset an ACCESS word decodes (R94). -/
theorem decodeAccess_of_listed {cfg : Config} {w : BitVec 42} (h : offsetListed cfg.nP.val (accessOff w).toNat = true) :
    ∃ i, decodeAccess cfg w = some i := by
  have hmax := offsetListed_mono (Nat.le_of_lt_succ cfg.nP.isLt) h
  have hal : (accessOff w).toNat = 4 * ((accessOff w).toNat / 4) := by
    have := ((offsetListed_iff_ranges _ _).1 h).1
    omega
  have hlt := (accessOff w).isLt
  rw [hal] at hmax
  obtain ⟨r, hr, hdir, hoff⟩ := accessRows_cover (accessDir w) _ (by omega) hmax
  rw [← hal, BitVec.ofNat_toNat, BitVec.setWidth_eq] at hoff
  refine ⟨r.build (accessData w), ?_⟩
  rw [decodeAccess_listed cfg w h, ← hdir, ← hoff, accessRows_find hr, Option.map_some]

/-- A host access decodes to a row exactly when it is 32 bits wide, inside the window, and at an offset R21 lists (R61 to
R63, R94). -/
theorem decodeBus_instr_iff (cfg : Config) (a : Access) :
    (∃ i, decodeBus cfg a = .instr i) ↔ a.off < 0x200 ∧ a.width = .w32 ∧ offsetListed cfg.nP.val a.off = true := by
  constructor
  · rintro ⟨i, h⟩
    obtain ⟨hoff, hw⟩ := decodeBus_instr_form h
    refine ⟨hoff, hw, ?_⟩
    rw [← accessOff_word hoff]
    exact offsetListed_of_decodeAccess (decodeBus_instr h)
  · rintro ⟨hoff, hw, hl⟩
    have hal : a.off % 4 = 0 := ((offsetListed_iff_ranges _ _).1 hl).1
    rw [← accessOff_word hoff] at hl
    obtain ⟨i, hi⟩ := decodeAccess_of_listed hl
    refine ⟨i, ?_⟩
    simp [decodeBus, Nat.not_le.2 hoff, hw, hal, hi]

/-- An access outside the window is not decoded (R63). -/
theorem decodeBus_of_outside (cfg : Config) {a : Access} (h : 0x200 ≤ a.off) : decodeBus cfg a = .outside := if_pos h

/-- The window's listed offsets, written as R21 writes them. -/
theorem offsetListed_iff (n off : Nat) : offsetListed n off = true ↔
    off % 4 = 0 ∧ (off ≤ 0x038 ∨ off = 0x040 ∨
      (∃ i : Nat, 1 ≤ i ∧ i ≤ n ∧ off = 0x044 + 4 * (i - 1)) ∨
      (∃ j : Nat, j ≤ n + 1 ∧ off = 0x080 + 4 * j) ∨
      (∃ j : Nat, j ≤ n + 1 ∧ off = 0x0C0 + 4 * j) ∨ (0x100 ≤ off ∧ off ≤ 0x124)) := by
  rw [offsetListed_iff_ranges]
  constructor
  · rintro ⟨hal, h | h | h | h | h⟩
    · exact ⟨hal, .inl h⟩
    · by_cases ho : off = 0x040
      · exact ⟨hal, .inr (.inl ho)⟩
      · exact ⟨hal, .inr (.inr (.inl ⟨(off - 0x040) / 4, by omega⟩))⟩
    · exact ⟨hal, .inr (.inr (.inr (.inl ⟨(off - 0x080) / 4, by omega⟩)))⟩
    · exact ⟨hal, .inr (.inr (.inr (.inr (.inl ⟨(off - 0x0C0) / 4, by omega⟩))))⟩
    · exact ⟨hal, .inr (.inr (.inr (.inr (.inr h))))⟩
  · rintro ⟨hal, h | h | ⟨i, hi⟩ | ⟨j, hj⟩ | ⟨j, hj⟩ | h⟩ <;> omega

/-- Settles O3: what decodes is what R21 lists, and no two rows share DIR and OFF. -/
theorem listedOffsetsDecodeToOneRow : Obligations.ListedOffsetsDecodeToOneRow := by
  unfold Obligations.ListedOffsetsDecodeToOneRow
  refine ⟨fun cfg a hw hal hoff => ?_, accessRows_keys_nodup⟩
  rw [decodeBus_instr_iff, offsetListed_iff]
  simp only [hw, hal, hoff, true_and]

/-- Settles O35: such an access decodes to no row, and the block's only other answer inside the window is BusError. -/
theorem badAccessesEndInBusError : Obligations.BadAccessesEndInBusError := by
  unfold Obligations.BadAccessesEndInBusError
  refine ⟨fun s a hoff hbad => ?_, fun s a hoff => act_host_outside a s (decodeBus_of_outside s.cfg hoff)⟩
  cases hd : decodeBus s.cfg a with
  | busError c => exact act_host_busError a c s hd
  | outside => exact absurd (decodeBus_outside hd) (Nat.not_le.2 hoff)
  | instr i =>
    obtain ⟨-, hw, hl⟩ := (decodeBus_instr_iff s.cfg a).1 ⟨i, hd⟩
    rw [offsetListed_iff_ranges] at hl
    have hn := s.cfg.nP.isLt
    rcases hbad with hne | hbad
    · exact absurd hw hne
    · omega

/-- The access that runs WR_CTRL is the 32-bit write of its DATA at offset 0 (R22, R81). -/
theorem access_of_decodeBus_wrCtrl {cfg : Config} {a : Access} {data : Word} (h : decodeBus cfg a = .instr (.wrCtrl data)) :
    a = Access.wr 0x000 data := by
  obtain ⟨hoff, hw⟩ := decodeBus_instr_form h
  have hword := Encoded.access.inj (encode_of_decodeAccess (decodeBus_instr h))
  have hdir : accessDir a.word = .write := by simpa using (congrArg accessDir hword).symm
  have hzero : accessOff a.word = 0x000#9 := by simpa using (congrArg accessOff hword).symm
  have hdata : accessData a.word = data := by simpa [hdir] using (congrArg accessData hword).symm
  have hoff0 : a.off = 0x000 := by rw [← accessOff_word hoff, hzero]; rfl
  cases a
  simp_all [Access.wr, Access.word]

end Sys2Proof.Machine
end

section
/-! SUPPORT. What the rows of plain registers do: reads, gated writes and writes of read-only registers (45_control.md R234 to
R236), for the registers the block's `N_P` gives and past them (10_state.md R21), and the fields of STATUS (R23). -/

namespace Sys2Proof.Machine

open Sys2Proof

/-! ### The registers a row needs -/

/-- The least `N_P` that gives a register (R21), as `Instr.neededParams` is for a row. -/
def Reg.neededParams : Reg → Nat
  | .param i => i.val + 1
  | .tx j | .rx j => j.val - 1
  | _ => 0

theorem Reg.present_eq (cfg : Config) (r : Reg) : r.present cfg = decide (r.neededParams ≤ cfg.nP.val) := by
  cases r with
  | param i => rfl
  | tx j | rx j =>
    have hframe : j.val < cfg.nP.val + 2 ↔ j.val - 1 ≤ cfg.nP.val := by omega
    exact decide_eq_decide.2 hframe
  | _ => exact (decide_eq_true (Nat.zero_le _)).symm

/-- A row and its register are there for the same `N_P`. -/
theorem present_eq_of_neededParams {i : Instr} {r : Reg} (h : i.neededParams = r.neededParams) (cfg : Config) :
    i.present cfg = r.present cfg := by
  rw [Instr.present, Reg.present_eq, h]

/-! ### One lemma for the rows of each kind -/

section

variable {i : Instr} {r : Reg} {s : State} {v : Word}

/-- A row that reads the register `r` (R234, R67). -/
theorem exec_of_hostRead (hx : exec i s = .next (hostRead r s)) (hn : i.neededParams = r.neededParams) :
    exec i s = .next { s with
      busLog := s.busLog ++ [if i.present s.cfg then .read r.offset (regValue s r) else .error r.offset] } := by
  rw [hx, present_eq_of_neededParams hn]
  cases hp : r.present s.cfg with
  | true => rw [hostRead_present r s hp]; rfl
  | false => rw [hostRead, accessReg_absent r _ s hp]; rfl

/-- A row that writes the gated register `r`, while idle (R235). -/
theorem exec_of_gatedWrite_idle (hi : s.estate = .idle) (hx : exec i s = .next (gatedWrite r v s))
    (hn : i.neededParams = r.neededParams) :
    exec i s = .next (if i.present s.cfg then logBus (.written r.offset v) (storeReg r v s)
      else { s with busLog := s.busLog ++ [.error r.offset] }) := by
  rw [hx, present_eq_of_neededParams hn]
  cases hp : r.present s.cfg with
  | true => rw [gatedWrite_idle r v s hp hi]; rfl
  | false => rw [gatedWrite, accessReg_absent r _ s hp]; rfl

/-- A row that writes the gated register `r`, while busy (R54). -/
theorem exec_of_gatedWrite_busy (hb : s.estate ≠ .idle) (hx : exec i s = .next (gatedWrite r v s))
    (hn : i.neededParams = r.neededParams) :
    exec i s = .next (if i.present s.cfg then { s with werr := true, busLog := s.busLog ++ [.written r.offset v] }
      else { s with busLog := s.busLog ++ [.error r.offset] }) := by
  rw [hx, present_eq_of_neededParams hn]
  cases hp : r.present s.cfg with
  | true => rw [gatedWrite_busy r v s hp hb]; rfl
  | false => rw [gatedWrite, accessReg_absent r _ s hp]; rfl

/-- A row that writes the read-only register `r` (R236). -/
theorem exec_of_readOnlyWrite (hx : exec i s = .next (readOnlyWrite r v s)) (hn : i.neededParams = r.neededParams) :
    exec i s = .next (if i.present s.cfg then { s with werr := true, busLog := s.busLog ++ [.written r.offset v] }
      else { s with busLog := s.busLog ++ [.error r.offset] }) := by
  rw [hx, present_eq_of_neededParams hn]
  cases hp : r.present s.cfg with
  | true => rw [readOnlyWrite_present r v s hp]; rfl
  | false => rw [readOnlyWrite, accessReg_absent r _ s hp]; rfl

end

/-! ### The halves of a word -/

theorem lo16_eq_setWidth (w : Word) : lo16 w = w.setWidth 16 := by
  ext k hk
  simp [lo16]

theorem zext32_hi16 (w : Word) : zext32 (hi16 w) = w >>> 16 := by
  apply BitVec.eq_of_toNat_eq
  have hw := w.isLt
  simp [zext32, hi16]
  omega

theorem zext32_lo16 (w : Word) : zext32 (lo16 w) = w &&& 0x0000FFFF#32 := by
  apply BitVec.eq_of_toNat_eq
  have hw := w.isLt
  rw [BitVec.toNat_and, show (0x0000FFFF#32 : Word).toNat = 2 ^ 16 - 1 from rfl, Nat.and_two_pow_sub_one_eq_mod]
  simp [zext32, lo16]
  omega

/-- The two halves of a word at their places (R140). -/
theorem pack16_eq_or (h l : Sub16) : pack16 h l = zext32 h <<< 16 ||| zext32 l := by
  have hh := h.isLt
  have hl := l.isLt
  apply BitVec.eq_of_toNat_eq
  rw [pack16, BitVec.toNat_append, BitVec.toNat_or, BitVec.toNat_shiftLeft, zext32, zext32,
    BitVec.toNat_setWidth_of_le (by decide), BitVec.toNat_setWidth_of_le (by decide), Nat.shiftLeft_eq,
    Nat.mod_eq_of_lt (by omega)]

/-- The high half at its place is all of a word but its low half. -/
theorem zext32_hi16_shiftLeft (w : Word) : zext32 (hi16 w) <<< 16 = w &&& 0xFFFF0000#32 := by
  have hmask : ∀ k (hk : k < 32), (0xFFFF0000#32 : Word)[k] = decide (16 ≤ k) := by decide
  rw [zext32_hi16]
  ext k hk
  rcases Nat.lt_or_ge k 16 with hlow | hhigh
  · simp [hmask, hlow]
  · simp [hmask, hhigh, Nat.not_lt.2 hhigh, BitVec.getLsbD_eq_getElem hk]

/-! ### The statements, row by row -/

/-- Settles O10: each row is the read of its register, which every block has. -/
theorem scalarReadsReturnRegisters : Obligations.ScalarReadsReturnRegisters := by
  unfold Obligations.ScalarReadsReturnRegisters
  intro s
  rw [← zext32_hi16, ← zext32_lo16]
  repeat refine List.forall_mem_cons.2 ⟨(exec_of_hostRead rfl rfl).trans rfl, ?_⟩
  exact List.forall_mem_nil _

/-- Settles O11: each row is the read of its register. -/
theorem arrayReadsReturnRegisters : Obligations.ArrayReadsReturnRegisters := by
  unfold Obligations.ArrayReadsReturnRegisters
  intro s
  repeat refine List.forall_mem_cons.2 ⟨(exec_of_hostRead rfl rfl).trans rfl, ?_⟩
  exact List.forall_mem_nil _

/-- Settles O13: each row is the gated write of its register, which every block has. -/
theorem scalarWritesStoreWhileIdle : Obligations.ScalarWritesStoreWhileIdle := by
  unfold Obligations.ScalarWritesStoreWhileIdle
  intro s v hi
  rw [← lo16_eq_setWidth]
  repeat refine List.forall_mem_cons.2 ⟨(exec_of_gatedWrite_idle hi rfl rfl).trans rfl, ?_⟩
  exact List.forall_mem_nil _

/-- Settles O14: each row is the gated write of its register. -/
theorem arrayWritesStoreWhileIdle : Obligations.ArrayWritesStoreWhileIdle := by
  unfold Obligations.ArrayWritesStoreWhileIdle
  intro s v hi
  rw [← lo16_eq_setWidth]
  repeat refine List.forall_mem_cons.2 ⟨(exec_of_gatedWrite_idle hi rfl rfl).trans rfl, ?_⟩
  exact List.forall_mem_nil _

/-- Settles O15: each row is the gated write of its register. -/
theorem gatedWritesDroppedWhileBusy : Obligations.GatedWritesDroppedWhileBusy := by
  unfold Obligations.GatedWritesDroppedWhileBusy
  intro s v hb
  repeat refine List.forall_mem_cons.2 ⟨(exec_of_gatedWrite_busy hb rfl rfl).trans rfl, ?_⟩
  exact List.forall_mem_nil _

/-- Settles O16: each row is the write of a read-only register. -/
theorem readOnlyWritesDropped : Obligations.ReadOnlyWritesDropped := by
  unfold Obligations.ReadOnlyWritesDropped
  intro s v
  repeat refine List.forall_mem_cons.2 ⟨(exec_of_readOnlyWrite rfl rfl).trans rfl, ?_⟩
  exact List.forall_mem_nil _

/-! ### STATUS -/

/-- Concatenation adds the halves at their weights (R10). -/
theorem toNat_append_eq_add {m n : Nat} (x : BitVec m) (y : BitVec n) : (x ++ y).toNat = x.toNat * 2 ^ n + y.toNat := by
  rw [BitVec.toNat_append, ← Nat.shiftLeft_add_eq_or_of_lt y.isLt, Nat.shiftLeft_eq]

theorem busy_toNat (s : State) : s.busy.toNat = if s.estate = .idle then 0 else 1 := by
  split
  · rw [(not_busy_iff s).2 ‹_›]; rfl
  · rw [(busy_iff s).2 ‹_›]; rfl

/-- The fields of STATUS at their bits (R23, R24). -/
theorem statusWord_toNat (s : State) : (statusWord s).toNat =
    (if s.estate = .idle then 0 else 1) + 2 * s.estate.code.toNat + 32 * s.result.code.toNat +
      512 * s.crcOk.toNat + 1024 * s.rxKind.code.toNat + 4096 * s.xferFail.toNat + 8192 * s.cmdRejected.toNat +
      16384 * s.werr.toNat := by
  rw [← busy_toNat]
  simp only [statusWord, toNat_append_eq_add, BitVec.toNat_ofBool, BitVec.toNat_ofNat]
  omega

/-- Settles O12: the value is the sum of the fields of `statusWord`, and the code tables are fixed. -/
theorem statusReadReturnsTheFields : Obligations.StatusReadReturnsTheFields := by
  unfold Obligations.StatusReadReturnsTheFields
  refine ⟨fun s => ⟨statusWord s, rfl, statusWord_toNat s⟩, ?_, ?_, ?_⟩ <;> rfl

/-! ### The host's own units -/

/-- Bit 0 of a word, as R111 reads it. -/
theorem extractLsb'_zero_one_iff (v : Word) : v.extractLsb' 0 1 = 1#1 ↔ v.getLsbD 0 = true := by
  simp [BitVec.eq_of_getElem_eq_iff]

/-- A write of the high half keeps the low half (R142). -/
theorem setHalf_hi (v w : Word) :
    setHalf .hi (lo16 v) w = (v &&& 0x0000FFFF#32) <<< 16 ||| (w &&& 0x0000FFFF#32) := by
  rw [setHalf, pack16_eq_or, zext32_lo16, zext32_lo16]

/-- A write of the low half keeps the high half (R143). -/
theorem setHalf_lo (v w : Word) :
    setHalf .lo (lo16 v) w = (w &&& 0xFFFF0000#32) ||| (v &&& 0x0000FFFF#32) := by
  rw [setHalf, pack16_eq_or, zext32_hi16_shiftLeft, zext32_lo16]

/-- Settles O17: the halves of PK are masks and shifts, and CRC_RESET reads bit 0. -/
theorem crcAndPkWrites : Obligations.CrcAndPkWrites := by
  unfold Obligations.CrcAndPkWrites
  intro s v
  refine ⟨?_, rfl, rfl, ?_, ?_⟩
  · rw [exec_crcReset]
    simp only [extractLsb'_zero_one_iff]
    rfl
  · rw [← setHalf_hi]; rfl
  · rw [← setHalf_lo]; rfl

/-! ### Reset -/

/-- Settles O36: the words of the four arrays are replicated zeros, and the rest is `State.resetWith`. -/
theorem resetValues : Obligations.ResetValues := by
  unfold Obligations.ResetValues
  rintro s rfl
  have hstatus : statusWord State.reset = 0#32 := by decide
  have hparam (i : Fin 11) : State.reset.param[i] = 0#32 := Vector.getElem_replicate i.isLt
  have htx (j : Fin 13) : State.reset.tx[j] = 0#32 := Vector.getElem_replicate j.isLt
  have hrx (j : Fin 13) : State.reset.rx[j] = 0#32 := Vector.getElem_replicate j.isLt
  have hpset (k : Fin 10) : State.reset.pset[k] = 0#16 := Vector.getElem_replicate k.isLt
  exact ⟨rfl, rfl, rfl, rfl, rfl, rfl, rfl, hstatus, rfl, rfl, rfl, rfl, rfl, rfl, rfl, rfl, rfl, rfl, rfl, hparam,
    fun j => ⟨htx j, hrx j⟩, hpset, rfl, rfl⟩

end Sys2Proof.Machine
end

section
/-! SUPPORT. What the steps leave unchanged: TX (10_state.md R41), VERSION (R35), what the engine can see while it is busy, and
the host's own units under every run of engine steps (R29, R54; 40_frame_codec.md R114). -/

namespace Sys2Proof.Machine

open Sys2Proof

/-! ### TX and VERSION -/

@[simp] theorem storeReg_tx (r : Reg) (v : Word) (s : State) : (storeReg r v s).tx = s.tx := by cases r <;> rfl

@[simp] theorem storeReg_version (r : Reg) (v : Word) (s : State) : (storeReg r v s).version = s.version := by
  cases r <;> rfl

/-- The commands that write TX are ENCODE, HANDSHAKE, IDENTIFY and CONFIGURE (R116, R180, R210, R216). -/
theorem code_of_commandBody_tx {c : Command} {s : State} (h : (commandBody c s).tx ≠ s.tx) :
    c.code ∈ [1#32, 3#32, 4#32, 5#32] := by
  cases c with
  | encode | handshake | identify | configure => decide
  | nop | verify | packPset | unpackPset | clearStatus => exact absurd (by simp [commandBody]) h

@[simp] theorem commandBody_version (c : Command) (s : State) : (commandBody c s).version = s.version := by
  cases c <;> simp [commandBody]

/-- A host access writes TX only by a command it issues while idle. -/
theorem hostEffect_tx {s t : State} {i : Instr} (h : HostEffect s i t) (htx : t.tx ≠ s.tx) :
    s.estate = .idle ∧ ∃ v, i = .wrCtrl v ∧ v ∈ [1#32, 3#32, 4#32, 5#32] := by
  cases h with
  | read i r => exact absurd (accessReg_induction (P := fun u => u.tx = s.tx) (fun _ => rfl) rfl) htx
  | gated i r v =>
    refine absurd (accessReg_induction (P := fun u => u.tx = s.tx) (fun _ => ?_) rfl) htx
    split <;> simp
  | readOnly i r v => exact absurd (accessReg_induction (P := fun u => u.tx = s.tx) (fun _ => rfl) rfl) htx
  | units i e acc pk => exact absurd rfl htx
  | reserved hc => exact absurd rfl htx
  | command hc =>
    rename_i data c
    by_cases hi : s.estate = .idle
    · rw [issueCommand_idle c _ s hi] at htx
      exact ⟨hi, data, rfl, code_of_decodeCommand hc ▸ code_of_commandBody_tx htx⟩
    · rw [issueCommand_busy c _ s hi] at htx
      exact absurd rfl htx

/-- No host access writes VERSION (R35, R236). -/
theorem hostEffect_version {s t : State} {i : Instr} (h : HostEffect s i t) : t.version = s.version := by
  cases h with
  | read i r => exact accessReg_induction (P := fun u => u.version = s.version) (fun _ => rfl) rfl
  | gated i r v =>
    refine accessReg_induction (P := fun u => u.version = s.version) (fun _ => ?_) rfl
    split <;> simp
  | readOnly i r v => exact accessReg_induction (P := fun u => u.version = s.version) (fun _ => rfl) rfl
  | units i e acc pk => rfl
  | command hc =>
    unfold issueCommand
    split <;> simp
  | reserved hc => rfl

theorem transact_version {e : PortEvent} {k : State → State} {s : State} (hk : ∀ t, (k t).version = t.version) :
    (transact e k s).version = s.version :=
  transact_induction (P := fun t => t.version = s.version) rfl (hk _)

theorem outerCheck_version (s : State) : (outerCheck s).version = s.version := by
  unfold outerCheck
  split <;> simp

theorem outerXfer_version (s : State) : (outerXfer s).version = s.version := by
  refine transact_version fun t => ?_
  dsimp only
  split <;> simp

theorem innerCheck_version (s : State) : (innerCheck s).version = s.version := by
  unfold innerCheck
  split <;> simp

theorem innerSettle_version (op : Word) (s : State) : (innerSettle op s).version = s.version := by
  unfold innerSettle
  split
  · exact transact_version fun _ => rfl
  split
  · exact transact_version fun _ => rfl
  · rfl

/-- A poll goes on to one of two microstates (R184, R185, R191). -/
theorem readyThen_version {k : Bool → State → State} {s : State} (hk : ∀ b t, (k b t).version = t.version) :
    (readyThen k s).version = s.version := transact_version (hk _)

theorem innerXfer_version (s : State) : (innerXfer s).version = s.version := by
  refine transact_version fun t => ?_
  dsimp only
  split <;> simp

theorem sqStart_version (s : State) : (sqStart s).version = s.version := by
  unfold sqStart
  split <;> rfl

theorem evalConfigure_version (s : State) : (evalConfigure s).version = s.version := by
  unfold evalConfigure
  repeat' split
  all_goals rfl

theorem sqEval_version {s : State} (h : s.eop ≠ .identify) : (sqEval s).version = s.version := by
  unfold sqEval
  split
  · contradiction
  · exact evalConfigure_version s
  · rfl
  · rfl

/-- The engine writes VERSION only where it evaluates an IDENTIFY attempt (R212). -/
theorem engineStep_version {s : State} (h : ¬(s.estate = .sqEval ∧ s.eop = .identify)) :
    (engineStep s).version = s.version := by
  unfold engineStep
  cases he : s.estate with
  | idle => rfl
  | hsOuterCheck => exact outerCheck_version s
  | hsOuterSleep | hsInnerSleep | sqReset | sqBackoff => exact transact_version fun _ => rfl
  | hsOuterPoll | hsInnerPoll => exact readyThen_version fun b _ => by cases b <;> rfl
  | hsOuterXfer => exact outerXfer_version s
  | hsInnerCheck => exact innerCheck_version s
  | hsInnerSettle => exact innerSettle_version _ s
  | hsInnerXfer => exact innerXfer_version s
  | sqStart => exact sqStart_version s
  | sqEval => exact sqEval_version fun hop => h ⟨he, hop⟩

/-- Settles O45: of the effects of a step only a command and block reset write TX. -/
theorem onlyFourCommandsWriteTx : Obligations.OnlyFourCommandsWriteTx := by
  unfold Obligations.OnlyFourCommandsWriteTx
  intro s t hstep htx
  cases stepEffect_of_next hstep with
  | nothing hin => exact absurd rfl htx
  | access hin hd he =>
    obtain ⟨hi, v, rfl, hv⟩ := hostEffect_tx he htx
    rw [access_of_decodeBus_wrCtrl hd] at hin
    exact .inr ⟨hi, v, _, hin, hv⟩
  | busError hin hd => exact absurd rfl htx
  | engine hin => exact absurd (engineStep_frame _).tx htx
  | blockReset hin => exact .inl ⟨_, hin⟩

/-- Settles O46: of the effects of a step only the evaluation and block reset write VERSION. -/
theorem onlyIdentifyWritesVersion : Obligations.OnlyIdentifyWritesVersion := by
  unfold Obligations.OnlyIdentifyWritesVersion
  intro s t hstep hv
  cases stepEffect_of_next hstep with
  | nothing hin => exact absurd rfl hv
  | access hin hd he => exact absurd (hostEffect_version he) hv
  | busError hin hd => exact absurd rfl hv
  | engine hin =>
    by_cases hev : s.estate = .sqEval ∧ s.eop = .identify
    · obtain ⟨he, hop⟩ := hev
      exact .inr ⟨he, hop, _, _, hin⟩
    · exact (hv (engineStep_version hev)).elim
  | blockReset hin => exact .inl ⟨_, hin⟩

/-! ### The host's own units -/

/-- The block `s` with the host's own units, sticky flags and log of accesses of `h` (R29, R54, R114). -/
def withHostUnits (h s : State) : State :=
  { s with crcAcc := h.crcAcc, pk := h.pk, cmdRejected := h.cmdRejected, werr := h.werr, busLog := h.busLog }

/-- Two blocks the engine cannot tell apart differ in the host's own units only. -/
theorem eq_withHostUnits_of_engineView {s s' : State} (h : engineView s = engineView s') : s' = withHostUnits s' s :=
  calc s' = withHostUnits s' (engineView s') := rfl
    _ = withHostUnits s' (engineView s) := by rw [h]
    _ = withHostUnits s' s := rfl

/-- While busy a host access that completes changes the host's own units only (R54, R233). -/
theorem hostEffect_busy {s t : State} {i : Instr} (hb : s.estate ≠ .idle) (h : HostEffect s i t) :
    t = withHostUnits t s := by
  cases h with
  | read i r => exact accessReg_induction (P := fun u => u = withHostUnits u s) (fun _ => rfl) rfl
  | gated i r v =>
    refine accessReg_induction (P := fun u => u = withHostUnits u s) (fun _ => ?_) rfl
    rw [(busy_iff s).2 hb]
    rfl
  | readOnly i r v => exact accessReg_induction (P := fun u => u = withHostUnits u s) (fun _ => rfl) rfl
  | units i e acc pk => rfl
  | command hc =>
    rw [issueCommand_busy _ _ s hb]
    rfl
  | reserved hc => rfl

/-- Settles O49: an access is the effect of its row, or BusError, which changes the log only. -/
theorem hostCannotDisturbABusyEngine : Obligations.HostCannotDisturbABusyEngine := by
  unfold Obligations.HostCannotDisturbABusyEngine
  intro s t a hb hact
  cases stepEffect_of_next hact with
  | access hin hd he =>
    cases hin
    exact hostEffect_busy hb he
  | busError hin hd =>
    cases hin
    rfl
  | nothing hin | engine hin | blockReset hin => nomatch hin

/-! ### The engine ignores the host's own units -/

section

variable (h s : State)

theorem hsFinish_withHostUnits (r : HsResult) :
    hsFinish r (withHostUnits h s) = withHostUnits h (hsFinish r s) := by
  cases hop : s.eop <;> simp [hsFinish, withHostUnits, hop, endLong]

/-- A transaction looks at the port only. -/
theorem transact_withHostUnits (e : PortEvent) {k : State → State}
    (hk : ∀ t, k (withHostUnits h t) = withHostUnits h (k t)) :
    transact e k (withHostUnits h s) = withHostUnits h (transact e k s) := by
  unfold transact
  rw [apply_ite (withHostUnits h), ← hk]
  rfl

/-- A poll goes on with the port's answer (R163). -/
theorem readyThen_withHostUnits {k : Bool → State → State}
    (hk : ∀ b t, k b (withHostUnits h t) = withHostUnits h (k b t)) :
    readyThen k (withHostUnits h s) = withHostUnits h (readyThen k s) :=
  transact_withHostUnits h s _ (hk s.port.ready)

theorem receive_withHostUnits : receive (withHostUnits h s) = withHostUnits h (receive s) := by
  unfold receive
  rw [apply_ite (withHostUnits h)]
  rfl

theorem rxCheck_withHostUnits (ref : Word) (ok : Bool) :
    rxCheck ref ok (withHostUnits h s) = withHostUnits h (rxCheck ref ok s) := by
  cases ok <;> rfl

/-- A transfer, and the check that follows it, look at TX, the port and RX only (R165, R166, R119). -/
theorem exchangeThen_withHostUnits {k : State → State} (hk : ∀ t, k (withHostUnits h t) = withHostUnits h (k t)) :
    exchangeThen k (withHostUnits h s) = withHostUnits h (exchangeThen k s) := by
  refine transact_withHostUnits h s _ fun t => ?_
  rw [← hk, ← rxCheck_withHostUnits, ← receive_withHostUnits]
  rfl

theorem evalIdentify_withHostUnits : evalIdentify (withHostUnits h s) = withHostUnits h (evalIdentify s) := by
  unfold evalIdentify
  simp only [apply_ite (withHostUnits h)]
  rfl

theorem evalConfigure_withHostUnits : evalConfigure (withHostUnits h s) = withHostUnits h (evalConfigure s) := by
  unfold evalConfigure
  simp only [apply_ite (withHostUnits h)]
  rfl

theorem outerCheck_withHostUnits : outerCheck (withHostUnits h s) = withHostUnits h (outerCheck s) := by
  unfold outerCheck
  rw [apply_ite (withHostUnits h), ← hsFinish_withHostUnits]
  rfl

theorem outerSleep_withHostUnits : outerSleep (withHostUnits h s) = withHostUnits h (outerSleep s) := by
  unfold outerSleep sleepThen
  exact transact_withHostUnits h s _ fun _ => rfl

theorem outerPoll_withHostUnits : outerPoll (withHostUnits h s) = withHostUnits h (outerPoll s) :=
  readyThen_withHostUnits h s fun b _ => by cases b <;> rfl

theorem outerXfer_withHostUnits : outerXfer (withHostUnits h s) = withHostUnits h (outerXfer s) := by
  refine exchangeThen_withHostUnits h s fun t => ?_
  rw [apply_ite (withHostUnits h)]
  rfl

theorem innerCheck_withHostUnits : innerCheck (withHostUnits h s) = withHostUnits h (innerCheck s) := by
  unfold innerCheck
  rw [apply_ite (withHostUnits h), ← hsFinish_withHostUnits]
  rfl

theorem innerSettle_withHostUnits (op : Word) :
    innerSettle op (withHostUnits h s) = withHostUnits h (innerSettle op s) := by
  have hsettle (ms : Word) : sleepThen ms (goto .hsInnerSleep) (withHostUnits h s) =
      withHostUnits h (sleepThen ms (goto .hsInnerSleep) s) := transact_withHostUnits h s _ fun _ => rfl
  unfold innerSettle
  simp only [apply_ite (withHostUnits h), ← hsettle]
  rfl

theorem innerPoll_withHostUnits : innerPoll (withHostUnits h s) = withHostUnits h (innerPoll s) :=
  readyThen_withHostUnits h s fun b _ => by cases b <;> rfl

theorem innerXfer_withHostUnits : innerXfer (withHostUnits h s) = withHostUnits h (innerXfer s) := by
  refine exchangeThen_withHostUnits h s fun t => ?_
  rw [apply_ite (withHostUnits h), ← hsFinish_withHostUnits]
  rfl

theorem sqStart_withHostUnits : sqStart (withHostUnits h s) = withHostUnits h (sqStart s) := by
  unfold sqStart
  rw [apply_ite (withHostUnits h)]
  rfl

theorem sqEval_withHostUnits : sqEval (withHostUnits h s) = withHostUnits h (sqEval s) := by
  have heop : (withHostUnits h s).eop = s.eop := rfl
  unfold sqEval
  rw [heop]
  cases s.eop with
  | identify => exact evalIdentify_withHostUnits h s
  | configure => exact evalConfigure_withHostUnits h s
  | handshake | none => rfl

/-- No rule of the engine reads the host's own units (R29, R54, R114). -/
theorem engineStep_withHostUnits : engineStep (withHostUnits h s) = withHostUnits h (engineStep s) := by
  have hestate : (withHostUnits h s).estate = s.estate := rfl
  unfold engineStep
  rw [hestate]
  cases s.estate with
  | idle => rfl
  | hsOuterCheck => exact outerCheck_withHostUnits h s
  | hsOuterSleep => exact outerSleep_withHostUnits h s
  | hsOuterPoll => exact outerPoll_withHostUnits h s
  | hsOuterXfer => exact outerXfer_withHostUnits h s
  | hsInnerCheck => exact innerCheck_withHostUnits h s
  | hsInnerSettle => exact innerSettle_withHostUnits h s _
  | hsInnerSleep => exact transact_withHostUnits h s _ fun _ => rfl
  | hsInnerPoll => exact innerPoll_withHostUnits h s
  | hsInnerXfer => exact innerXfer_withHostUnits h s
  | sqStart => exact sqStart_withHostUnits h s
  | sqReset => exact transact_withHostUnits h s _ fun _ => rfl
  | sqBackoff => exact transact_withHostUnits h s _ fun _ => rfl
  | sqEval => exact sqEval_withHostUnits h s


end

/-- One step of a run of the engine is the rule of its microstate (R40). -/
theorem engineRun_succ (oracle : Oracle) (n : Nat) (s : State) :
    engineRun oracle (n + 1) s = engineRun oracle n (engineStep { s with port := oracle s.trace.length }) := by
  have hact := engineStepsFollowTheMicrostate s (oracle s.trace.length)
  rw [engineRun, hact]

/-- A run of the engine always answers, and it does not read the host's own units. -/
theorem engineRun_withHostUnits (oracle : Oracle) (n : Nat) (s : State) :
    ∃ t, engineRun oracle n s = .next t ∧
      ∀ h, engineRun oracle n (withHostUnits h s) = .next (withHostUnits h t) := by
  induction n generalizing s with
  | zero => exact ⟨s, rfl, fun _ => rfl⟩
  | succ n ih =>
    obtain ⟨t, ht, hunits⟩ := ih (engineStep { s with port := oracle s.trace.length })
    refine ⟨t, by rw [engineRun_succ, ht], fun h => ?_⟩
    rw [engineRun_succ, ← hunits h, ← engineStep_withHostUnits]
    rfl

/-- Settles O50: the two blocks differ in the host's own units only, which no run of the engine reads or writes. -/
theorem engineIgnoresHostUnits : Obligations.EngineIgnoresHostUnits := by
  unfold Obligations.EngineIgnoresHostUnits
  intro s s' oracle n hview
  obtain ⟨t, ht, hunits⟩ := engineRun_withHostUnits oracle n s
  refine ⟨t, withHostUnits s' t, ht, ?_, rfl, ?_⟩
  · rw [eq_withHostUnits_of_engineView hview]
    exact hunits s'
  · have hself : engineRun oracle n s = .next (withHostUnits s t) := hunits s
    rw [ht] at hself
    exact Host.Outcome.next.inj hself

end Sys2Proof.Machine
end

section
/-! SUPPORT. The words of each format against the encoder (30_encoding.md R83 to R85, R94), CTRL writes by the command of their
value (45_control.md R232, R233), and what the engine does with each wire opcode where it handles a FRAME word 0 (R87;
43_handshake.md R186 to R192). -/

namespace Sys2Proof.Machine

open Sys2Proof

/-! ### The values of the commands -/

/-- The code of a command decodes to it (R84, R85). -/
@[simp] theorem decodeCommand_code (c : Command) : decodeCommand c.code = some c := by
  cases c <;> decide

theorem command_code_le (c : Command) : c.code.toNat ≤ 8 := by
  cases c <;> decide

theorem exists_command_of_le {v : Word} (h : v.toNat ≤ 8) : ∃ c : Command, c.code = v := by
  have hcodes : ∀ n < 9, ∃ c ∈ commands, c.code = BitVec.ofNat 32 n := by decide
  obtain ⟨c, -, hc⟩ := hcodes v.toNat (Nat.lt_succ_of_le h)
  exact ⟨c, by rw [hc, BitVec.ofNat_toNat, BitVec.setWidth_eq]⟩

/-- A CMD value decodes to the command whose code it is, and to no other (R84, R85). -/
theorem decodeCommand_iff {v : Word} {c : Command} : decodeCommand v = some c ↔ c.code = v :=
  ⟨code_of_decodeCommand, fun h => h ▸ decodeCommand_code c⟩

/-- Settles O4: the values that decode are the codes of the commands, and those are 0x0 to 0x8. -/
theorem commandValuesDecode : Obligations.CommandValuesDecode := by
  unfold Obligations.CommandValuesDecode
  intro v
  simp only [decodeCommand_iff]
  refine ⟨⟨?_, exists_command_of_le⟩, fun c hc => hc⟩
  rintro ⟨c, rfl⟩
  exact command_code_le c

/-! ### The encoder on what decodes -/

/-- The word of a command's row is the command's code (R84). -/
theorem encode_toInstr (cfg : Config) (c : Command) : encode cfg c.toInstr = .cmd c.code := by
  cases c <;> rfl

/-- A wire opcode that decodes is the one of its row (R87). -/
theorem encode_of_decodeWire {cfg : Config} {opc : Word} {i : Instr} (h : decodeWire cfg opc = some i) :
    encode cfg i = .wire opc := by
  unfold decodeWire at h
  split_ifs at h with hop hop hop hop hop hop hop
  all_goals
    cases h
    rw [hop]
    rfl

/-- Settles O2: by the format of the word. -/
theorem encodeDecodeAgree : Obligations.EncodeDecodeAgree := by
  unfold Obligations.EncodeDecodeAgree
  refine fun cfg i => ⟨fun v h => ?_, fun w h => ?_, fun opc h => encode_of_decodeWire h⟩
  · obtain ⟨c, hc, rfl⟩ := Option.map_eq_some_iff.1 h
    rw [encode_toInstr, code_of_decodeCommand hc]
  · rw [encode_of_decodeAccess h]
    cases hdir : accessDir w with
    | read => rfl
    | write =>
      have hfields := accessWord_fields w
      rw [hdir] at hfields
      simp [hfields]

/-! ### CTRL writes -/

/-- Settles O8: the code of a command decodes to it, so both issue its pseudocode, idle or not. -/
theorem wrCtrlRunsTheCommand : Obligations.WrCtrlRunsTheCommand := by
  unfold Obligations.WrCtrlRunsTheCommand
  exact fun s c _ => ⟨_, exec_wrCtrl_command (decodeCommand_code c) s, exec_command c s⟩

/-- A command's row, while busy, is rejected (R233). -/
theorem exec_command_busy {s : State} (hb : s.estate ≠ .idle) (c : Command) :
    exec c.toInstr s = .next { s with cmdRejected := true, busLog := s.busLog ++ [.written 0x000 c.code] } := by
  rw [exec_command, issueCommand_busy c _ s hb]
  rfl

/-- Settles O23: a value that decodes is at most 8, so such a write is one of a command while busy; any other is reserved. -/
theorem commandsRejectedWhileBusyOrReserved : Obligations.CommandsRejectedWhileBusyOrReserved := by
  unfold Obligations.CommandsRejectedWhileBusyOrReserved
  refine ⟨fun s hb => ?_, fun s v hrej => ?_⟩
  · change ∀ p ∈ commands.map fun c => (c.toInstr, c.code), _
    exact List.forall_mem_map.2 fun c _ => exec_command_busy hb c
  · cases hd : decodeCommand v with
    | none => exact exec_wrCtrl_reserved hd s
    | some c =>
      obtain rfl : c.code = v := code_of_decodeCommand hd
      have hb : s.estate ≠ .idle := hrej.resolve_right (Nat.not_lt.2 (command_code_le c))
      rw [exec_wrCtrl_command hd, ← exec_command, exec_command_busy hb]

/-! ### The WIRE rows -/

section

variable {s : State} {i j : Instr} {op : Word}

/-- While busy a WIRE row is the engine meeting the row's opcode (R87; log 15). -/
theorem exec_of_encode_wire (hb : s.busy = true) (h : encode s.cfg i = .wire op) :
    exec i s = .next (meetOpcode op s) := by
  cases i with
  | opcReportInfo => cases h; exact exec_opcReportInfo_busy hb
  | opcSetup => cases h; exact exec_opcSetup_busy hb
  | opcNone | opcListening | opcBlListening | opcBlEraseAll | opcBlWriteFirmware => cases h; rfl
  | _ => nomatch h

/-- Distinct WIRE rows have distinct opcodes (R6, R88). -/
theorem encode_wire_ne {cfg : Config} (hwf : cfg.wf) {opi opj : Word} (hi : encode cfg i = .wire opi)
    (hj : encode cfg j = .wire opj) (hne : i ≠ j) : opi ≠ opj := by
  rintro rfl
  have hdi := (decodeWire_of_encode hwf hi).1
  have hdj := (decodeWire_of_encode hwf hj).1
  exact hne (Option.some.inj (hdi.symm.trans hdj))

/-! ### The settle of an inner attempt -/

/-- HS_INNER_SETTLE with its transaction, if the probe's opcode has one, completed (R189). -/
theorem innerSettle_completes (hc : s.port.completes = true) (op : Word) :
    innerSettle op s = { s with trace := s.trace ++ settleEvents s.cfg op, estate := .hsInnerSleep } := by
  unfold innerSettle settleEvents
  split
  · exact transact_completes _ _ s hc
  split
  · exact transact_completes _ _ s hc
  · rw [List.append_nil]
    rfl

theorem settleEvents_eraseAll (cfg : Config) : settleEvents cfg cfg.opcBlEraseAll = [.sleep 600#32] := if_pos rfl

theorem settleEvents_writeFirmware {cfg : Config} (h : cfg.opcBlWriteFirmware ≠ cfg.opcBlEraseAll) :
    settleEvents cfg cfg.opcBlWriteFirmware = [.sleep 10#32] := by
  rw [settleEvents, if_neg h, if_pos rfl]

/-- Only the two administrative opcodes settle (R189). -/
theorem settleEvents_other {cfg : Config} (he : op ≠ cfg.opcBlEraseAll) (hw : op ≠ cfg.opcBlWriteFirmware) :
    settleEvents cfg op = [] := by
  rw [settleEvents, if_neg he, if_neg hw]

/-- A WIRE row in HS_INNER_SETTLE is the settle of a probe with the row's opcode (R189). -/
theorem exec_wire_settle (he : s.estate = .hsInnerSettle) (hc : s.port.completes = true)
    (h : encode s.cfg i = .wire op) :
    exec i s = .next { s with trace := s.trace ++ settleEvents s.cfg op, estate := .hsInnerSleep } := by
  rw [exec_of_encode_wire ((busy_iff s).2 (by simp [he])) h, ← innerSettle_completes hc]
  simp [meetOpcode, he]

/-! ### The transfers -/

/-- After a successful Exchange the block has received the reply and checked it (R165, R166, R119). -/
theorem exchanged_ok (hok : s.port.ok = true) : exchanged s = received s.port s := by
  simp [exchanged, hok, receive_ok, rxCheck_ok, received, emit, replyFrame]

/-- HS_OUTER_XFER with a successful transfer (R186, R187). -/
theorem outerXfer_ok (hc : s.port.completes = true) (hok : s.port.ok = true) :
    outerXfer s = if verifyFrame s.cfg s.port.reply = true ∧
        (s.port.reply[0] = s.cfg.opcListening ∨ s.port.reply[0] = s.cfg.opcBlListening)
      then { received s.port s with innerCount := 0#32, estate := .hsInnerCheck }
      else { received s.port s with estate := .hsOuterCheck } := by
  have hack : listeningAck (received s.port s) = true ↔ verifyFrame s.cfg s.port.reply = true ∧
      (s.port.reply[0] = s.cfg.opcListening ∨ s.port.reply[0] = s.cfg.opcBlListening) := by
    simp [listeningAck, received, hok]
  have hx : outerXfer s = if listeningAck (exchanged s) then goto .hsInnerCheck { exchanged s with innerCount := 0#32 }
      else goto .hsOuterCheck (exchanged s) := exchangeThen_completes _ s hc
  rw [hx, exchanged_ok hok]
  simp only [hack]
  rfl

/-- HS_INNER_XFER with a successful transfer (R192). -/
theorem innerXfer_ok (hc : s.port.completes = true) (hok : s.port.ok = true) :
    innerXfer s = if verifyFrame s.cfg s.port.reply = true ∧ s.port.reply[0] = s.tx[0]
      then hsFinish .ok (received s.port s) else { received s.port s with estate := .hsInnerCheck } := by
  have hecho : echoed (received s.port s) = true ↔
      verifyFrame s.cfg s.port.reply = true ∧ s.port.reply[0] = s.tx[0] := by
    simp [echoed, received, hok]
  have hx : innerXfer s = if echoed (exchanged s) then hsFinish .ok (exchanged s)
      else goto .hsInnerCheck (exchanged s) := exchangeThen_completes _ s hc
  rw [hx, exchanged_ok hok]
  simp only [hecho]
  rfl

/-- A WIRE row in HS_OUTER_XFER, with a well-formed reply of the row's opcode (R186, R187). -/
theorem exec_wire_outerXfer (he : s.estate = .hsOuterXfer) (hc : s.port.completes = true) (hok : s.port.ok = true)
    (hv : verifyFrame s.cfg s.port.reply = true) (h : encode s.cfg i = .wire op) (hop : s.port.reply[0] = op) :
    exec i s = .next (if op = s.cfg.opcListening ∨ op = s.cfg.opcBlListening
      then { received s.port s with innerCount := 0#32, estate := .hsInnerCheck }
      else { received s.port s with estate := .hsOuterCheck }) := by
  have hmeet : meetOpcode op s = outerXfer s := by
    simp only [meetOpcode, he, withReplyOpcode_self op s hop]
  rw [exec_of_encode_wire ((busy_iff s).2 (by simp [he])) h, hmeet, outerXfer_ok hc hok]
  simp only [hv, hop, true_and]

/-- A WIRE row in HS_INNER_XFER of a plain HANDSHAKE, with a well-formed reply of the row's opcode (R192, R195). -/
theorem exec_wire_innerXfer (he : s.estate = .hsInnerXfer) (heop : s.eop = .handshake)
    (hc : s.port.completes = true) (hok : s.port.ok = true) (hv : verifyFrame s.cfg s.port.reply = true)
    (h : encode s.cfg i = .wire op) (hop : s.port.reply[0] = op) :
    exec i s = .next (if s.tx[0] = op
      then { received s.port s with result := .ok, eop := .none, estate := .idle }
      else { received s.port s with estate := .hsInnerCheck }) := by
  have hmeet : meetOpcode op s = innerXfer s := by
    simp only [meetOpcode, he, withReplyOpcode_self op s hop]
  rw [exec_of_encode_wire ((busy_iff s).2 (by simp [he])) h, hmeet, innerXfer_ok hc hok,
    hsFinish_handshake .ok (received s.port s) heop]
  simp only [hv, hop, true_and, eq_comm (a := op)]
  rfl

end

/-- Settles O24: the settle of each row's opcode, the seven being distinct. -/
theorem wireOpcodesSettle : Obligations.WireOpcodesSettle := by
  unfold Obligations.WireOpcodesSettle
  intro s hwf he hc
  have hother {i : Instr} {op : Word} (h : encode s.cfg i = .wire op) (hne : i ≠ .opcBlEraseAll)
      (hnw : i ≠ .opcBlWriteFirmware) : exec i s = .next { s with estate := .hsInnerSleep } := by
    rw [exec_wire_settle he hc h,
      settleEvents_other (encode_wire_ne hwf h rfl hne) (encode_wire_ne hwf h rfl hnw), List.append_nil]
  refine ⟨?_, ?_, ?_⟩
  · rw [exec_wire_settle he hc rfl, settleEvents_eraseAll]
  · have hne : s.cfg.opcBlWriteFirmware ≠ s.cfg.opcBlEraseAll :=
      encode_wire_ne (i := .opcBlWriteFirmware) (j := .opcBlEraseAll) hwf rfl rfl nofun
    rw [exec_wire_settle he hc rfl, settleEvents_writeFirmware hne]
  · repeat refine List.forall_mem_cons.2 ⟨hother rfl nofun nofun, ?_⟩
    exact List.forall_mem_nil _

/-- Settles O25: the two listening opcodes are the acknowledgements of R186, and the other five are distinct from them. -/
theorem wireOpcodesAcknowledge : Obligations.WireOpcodesAcknowledge := by
  unfold Obligations.WireOpcodesAcknowledge
  intro s hwf he hc hok hv
  have hother {i : Instr} {op : Word} (h : encode s.cfg i = .wire op) (hnl : i ≠ .opcListening)
      (hnb : i ≠ .opcBlListening) (hop : s.port.reply[0] = op) :
      exec i s = .next { received s.port s with estate := .hsOuterCheck } := by
    have hno : ¬(op = s.cfg.opcListening ∨ op = s.cfg.opcBlListening) :=
      not_or.2 ⟨encode_wire_ne hwf h rfl hnl, encode_wire_ne hwf h rfl hnb⟩
    rw [exec_wire_outerXfer he hc hok hv h hop, if_neg hno]
  constructor
  · refine List.forall_mem_cons.2 ⟨fun hop => ?_, List.forall_mem_singleton.2 fun hop => ?_⟩
    · exact (exec_wire_outerXfer he hc hok hv rfl hop).trans (by rw [if_pos (.inl rfl)])
    · exact (exec_wire_outerXfer he hc hok hv rfl hop).trans (by rw [if_pos (.inr rfl)])
  · repeat refine List.forall_mem_cons.2 ⟨hother rfl nofun nofun, ?_⟩
    exact List.forall_mem_nil _

/-- Settles O26: the transfer of a plain HANDSHAKE, for the opcode of each row. -/
theorem wireOpcodesEcho : Obligations.WireOpcodesEcho := by
  unfold Obligations.WireOpcodesEcho
  intro s he heop hc hok hv
  repeat refine List.forall_mem_cons.2 ⟨exec_wire_innerXfer he heop hc hok hv rfl, ?_⟩
  exact List.forall_mem_nil _

end Sys2Proof.Machine
end

section
/-! SUPPORT. The checksum as a function (40_frame_codec.md R110, R113): each shift is linear and, where CRC_POLY is odd,
injective, so the checksum of a frame is affine in its words (R124) and tells apart two frames that differ in one covered
word (R122). -/

namespace Sys2Proof.Machine

open Sys2Proof

/-! ### The checksum is linear -/

/-- A shift as one XOR of the word shifted and of CRC_POLY or nothing (R110). -/
theorem crcShift_eq_xor (poly c : Word) : crcShift poly c = c <<< 1 ^^^ (if c.msb then poly else 0#32) := by
  unfold crcShift
  split <;> simp

theorem crcShift_xor (poly a b : Word) : crcShift poly (a ^^^ b) = crcShift poly a ^^^ crcShift poly b := by
  have hout : (if (a ^^^ b).msb then poly else 0#32) =
      (if a.msb then poly else 0#32) ^^^ (if b.msb then poly else 0#32) := by
    cases ha : a.msb <;> cases hb : b.msb <;> simp [ha, hb]
  simp only [crcShift_eq_xor, BitVec.shiftLeft_xor_distrib, hout]
  ac_rfl

theorem crcShifts_xor (poly : Word) (n : Nat) (a b : Word) :
    crcShifts poly n (a ^^^ b) = crcShifts poly n a ^^^ crcShifts poly n b := by
  induction n generalizing a b with
  | zero => rfl
  | succ n ih => simp only [crcShifts, crcShift_xor, ih]

theorem crcWord_xor (poly a b v w : Word) : crcWord poly (a ^^^ b) (v ^^^ w) = crcWord poly a v ^^^ crcWord poly b w := by
  have hargs : (a ^^^ b) ^^^ (v ^^^ w) = (a ^^^ v) ^^^ (b ^^^ w) := by ac_rfl
  rw [crcWord, hargs, crcShifts_xor, crcWord, crcWord]

/-- Feeding two lists of one length, XORed word by word, from two accumulators XORed (R112). -/
theorem foldl_crcWord_xor (poly : Word) (vs ws : List Word) (hlen : vs.length = ws.length) (a b : Word) :
    (vs.zipWith (· ^^^ ·) ws).foldl (crcWord poly) (a ^^^ b) =
      vs.foldl (crcWord poly) a ^^^ ws.foldl (crcWord poly) b := by
  induction vs generalizing ws a b with
  | nil => simp [List.eq_nil_of_length_eq_zero hlen.symm]
  | cons v vs ih =>
    cases ws with
    | nil => contradiction
    | cons w ws =>
      simp only [List.zipWith_cons_cons, List.foldl_cons, crcWord_xor]
      exact ih ws (Nat.succ.inj hlen) _ _

/-- The words the checksum covers, fed from an accumulator of any value (R113 without the reset). -/
def feedFrame (cfg : Config) (c : Word) (f : Frame) : Word :=
  (f.toList.take cfg.crcWordCount).foldl (crcWord cfg.crcPoly) c

theorem crcFrame_eq_feedFrame (cfg : Config) (f : Frame) : crcFrame cfg f = feedFrame cfg cfg.crcInit f := rfl

theorem feedFrame_xor (cfg : Config) (a b : Word) (f g : Frame) :
    feedFrame cfg (a ^^^ b) (Vector.zipWith (· ^^^ ·) f g) = feedFrame cfg a f ^^^ feedFrame cfg b g := by
  have hlist : (Vector.zipWith (· ^^^ ·) f g).toList.take cfg.crcWordCount =
      (f.toList.take cfg.crcWordCount).zipWith (· ^^^ ·) (g.toList.take cfg.crcWordCount) := by
    rw [Vector.toList_zipWith, List.take_zipWith]
  rw [feedFrame, hlist]
  exact foldl_crcWord_xor _ _ _ (by simp) a b

/-- Settles O42: the zero frame changes no word, and three XORed CRC_INIT are one. -/
theorem checksumIsAffine : Obligations.ChecksumIsAffine := by
  unfold Obligations.ChecksumIsAffine
  intro cfg f g
  have hzero (h : Frame) : Vector.zipWith (· ^^^ ·) h (Vector.replicate 13 0#32) = h := by
    apply Vector.ext
    simp
  have hinit : cfg.crcInit ^^^ cfg.crcInit ^^^ cfg.crcInit = cfg.crcInit := by simp
  simp only [crcFrame_eq_feedFrame]
  rw [← feedFrame_xor, ← feedFrame_xor, hzero, hinit]

/-! ### The checksum is injective in each covered word -/

/-- With an odd CRC_POLY a shift loses nothing: bit 0 of its value is the bit shifted out. -/
theorem crcShift_injective {poly : Word} (hodd : poly.getLsbD 0 = true) : Function.Injective (crcShift poly) := by
  intro a b h
  have hout (c : Word) : (crcShift poly c).getLsbD 0 = c.msb := by
    cases hc : c.msb <;> simp [crcShift_eq_xor, hc, hodd]
  have hmsb : a.msb = b.msb := by rw [← hout a, ← hout b, h]
  have hshift : a <<< 1 = b <<< 1 := by
    rw [crcShift_eq_xor, crcShift_eq_xor, hmsb] at h
    exact (BitVec.xor_left_inj _).1 h
  apply BitVec.eq_of_getLsbD_eq
  intro i hi
  by_cases htop : i = 31
  · rw [htop]
    exact hmsb
  · have hbit := congrArg (BitVec.getLsbD · (i + 1)) hshift
    have hlt : i + 1 < 32 := by omega
    simpa [hlt, BitVec.getLsbD_eq_getElem hi] using hbit

theorem crcShifts_injective {poly : Word} (hodd : poly.getLsbD 0 = true) (n : Nat) :
    Function.Injective (crcShifts poly n) := by
  induction n with
  | zero => exact Function.injective_id
  | succ n ih => exact ih.comp (crcShift_injective hodd)

theorem crcWord_injective_acc {poly : Word} (hodd : poly.getLsbD 0 = true) (w : Word) :
    Function.Injective fun c => crcWord poly c w :=
  fun _ _ h => (BitVec.xor_left_inj _).1 (crcShifts_injective hodd 32 h)

theorem crcWord_injective_word {poly : Word} (hodd : poly.getLsbD 0 = true) (c : Word) :
    Function.Injective (crcWord poly c) :=
  fun _ _ h => (BitVec.xor_right_inj _).1 (crcShifts_injective hodd 32 h)

/-- Feeding the same words keeps two accumulators apart. -/
theorem foldl_crcWord_injective {poly : Word} (hodd : poly.getLsbD 0 = true) (ws : List Word) :
    Function.Injective fun c => ws.foldl (crcWord poly) c := by
  induction ws with
  | nil => exact Function.injective_id
  | cons w ws ih => exact ih.comp (crcWord_injective_acc hodd w)

/-- Feeding a list is injective in any one of its words. -/
theorem foldl_crcWord_set_injective {poly : Word} (hodd : poly.getLsbD 0 = true) (ws : List Word) {j : Nat}
    (hj : j < ws.length) (c : Word) : Function.Injective fun w => (ws.set j w).foldl (crcWord poly) c := by
  induction ws generalizing j c with
  | nil => contradiction
  | cons v ws ih =>
    cases j with
    | zero => exact (foldl_crcWord_injective hodd ws).comp (crcWord_injective_word hodd c)
    | succ j => exact ih (Nat.lt_of_succ_lt_succ hj) (crcWord poly c v)

/-- The checksum is injective in any one of the words 0 to `N_P` (R113). -/
theorem crcFrame_set_injective {cfg : Config} (hodd : cfg.crcPoly.getLsbD 0 = true) (f : Frame) {j : Fin 13}
    (hj : j.val ≤ cfg.nP.val) : Function.Injective fun w => crcFrame cfg (f.set j w) := by
  have hset (w : Word) : crcFrame cfg (f.set j w) =
      ((f.toList.take cfg.crcWordCount).set j w).foldl (crcWord cfg.crcPoly) cfg.crcInit := by
    rw [crcFrame, crcWords, Vector.toList_set, List.take_set]
  simp only [hset]
  refine foldl_crcWord_set_injective hodd _ ?_ _
  simp only [List.length_take, Vector.length_toList, Config.crcWordCount]
  omega

/-- A change of the checksum word leaves the checksum as it was (R113). -/
theorem crcFrame_set_crcIndex (cfg : Config) (f : Frame) (w : Word) : crcFrame cfg (f.set cfg.crcIndex w) = crcFrame cfg f := by
  refine crcFrame_congr fun j hj hle => ?_
  have hne : cfg.crcIndex.val ≠ j := by
    simp only [Config.crcIndex, Fin.val_succ]
    omega
  exact Vector.getElem_set_ne _ _ hne

theorem verifyFrame_iff (cfg : Config) (f : Frame) : verifyFrame cfg f = true ↔ crcFrame cfg f = f[cfg.crcIndex] := beq_iff_eq

/-- With an odd CRC_POLY, a frame that verifies does not after any change of one of its words. -/
theorem verifyFrame_set_ne {cfg : Config} (hodd : cfg.crcPoly.getLsbD 0 = true) {f : Frame} (hv : verifyFrame cfg f = true)
    {j : Fin 13} (hj : j.val ≤ cfg.nP.val + 1) {w : Word} (hw : w ≠ f[j]) : verifyFrame cfg (f.set j w) = false := by
  rw [verifyFrame_iff] at hv
  rw [Bool.eq_false_iff, Ne, verifyFrame_iff]
  by_cases hc : j = cfg.crcIndex
  · subst hc
    rw [crcFrame_set_crcIndex, hv]
    simpa using hw.symm
  · have hle : j.val ≤ cfg.nP.val := by
      have hval : j.val ≠ cfg.nP.val + 1 := fun h => hc (Fin.ext h)
      omega
    have hsame : (f.set j w)[cfg.crcIndex] = crcFrame cfg (f.set j f[j]) := by
      have hne : j.val ≠ cfg.crcIndex.val := fun h => hc (Fin.ext h)
      simp [hv, hne]
    rw [hsame]
    exact fun h => hw (crcFrame_set_injective hodd f hle h)

/-- Settles O41: the default CRC_POLY is odd, and a flipped bit changes the word. -/
theorem singleBitErrorsDetected : Obligations.SingleBitErrorsDetected := by
  unfold Obligations.SingleBitErrorsDetected
  intro cfg f j b hj hpoly hv
  have hodd : cfg.crcPoly.getLsbD 0 = true := by rw [hpoly]; decide
  have hflip : f[j] ^^^ 1#32 <<< b.val ≠ f[j] := by
    intro h
    have hbit := congrArg (BitVec.getLsbD · b.val) h
    simp at hbit
  exact verifyFrame_set_ne hodd hv hj hflip

end Sys2Proof.Machine
end

section
/-! SUPPORT. The frame encoder and the frame check by their words (40_frame_codec.md R113, R115, R117, R123), and the commands
ENCODE and VERIFY (R116, R118). -/

namespace Sys2Proof.Machine

open Sys2Proof

/-! ### The functions -/

/-- The encoder looks at no constant but `N_P`, CRC_POLY and CRC_INIT (R123). -/
theorem encodeFrame_congr {cfg cfg' : Config} (o : Word) (p : Params) (hn : cfg.nP = cfg'.nP)
    (hpoly : cfg.crcPoly = cfg'.crcPoly) (hinit : cfg.crcInit = cfg'.crcInit) :
    encodeFrame cfg o p = encodeFrame cfg' o p := by
  have hwords : crcWords cfg (o :: p.toList) = crcWords cfg' (o :: p.toList) := by
    simp only [crcWords, Config.crcWordCount, hn, hpoly, hinit]
  have htrim : trimFrame cfg = trimFrame cfg' := by
    have hcount : cfg.frameWords = cfg'.frameWords := by rw [Config.frameWords, Config.frameWords, hn]
    funext f
    rw [trimFrame, trimFrame, hcount]
  have hindex : cfg.crcIndex = cfg'.crcIndex := congrArg Fin.succ hn
  simp only [encodeFrame_eq, hwords, htrim, hindex]

/-- Settles O40: what the encoder puts at word `N_P+1` is the checksum of the words before it. -/
theorem encodedFramesVerify : Obligations.EncodedFramesVerify :=
  ⟨verifyFrame_encodeFrame, fun _ _ o p => encodeFrame_congr o p⟩

/-- `crc_word` as the 32 shifts of R110, the bit shifted out being bit 31. -/
theorem crcShifts_eq_iterate (poly : Word) (n : Nat) :
    crcShifts poly n = (fun x : Word => if x.getLsbD 31 then (x <<< 1) ^^^ poly else x <<< 1)^[n] := by
  induction n with
  | zero => rfl
  | succ n ih =>
    funext c
    rw [crcShifts, ih, Function.iterate_succ_apply, crcShift, BitVec.msb_eq_getLsbD_last]

theorem frame_toList (f : Frame) : f.toList =
    [f[0], f[1], f[2], f[3], f[4], f[5], f[6], f[7], f[8], f[9], f[10], f[11], f[12]] := by
  apply List.ext_getElem
  · simp
  · intro j h1 h2
    simp only [Vector.length_toList] at h1
    interval_cases j <;> rfl

/-- The parameter words of an encoded frame stand at words 1 to `N_P` (R115). -/
theorem encodeFrame_param (cfg : Config) (o : Word) (p : Params) (i : Fin 11) (hi : i.val < cfg.nP.val) :
    (encodeFrame cfg o p)[i.val + 1] = p[i] := by
  have hword : (uncheckedFrame o p)[i.val + 1] = p[i] := by
    fin_cases i <;> rfl
  have hne : cfg.crcIndex.val ≠ i.val + 1 := by
    simp only [Config.crcIndex, Fin.val_succ]
    omega
  have hlt : i.val + 1 < cfg.frameWords := by
    simp only [Config.frameWords]
    omega
  simp [encodeFrame_eq, hne, hlt, hword]

/-- Settles O18: the model's functions by their words, and two values under the defaults. -/
theorem codecFunctions : Obligations.CodecFunctions := by
  unfold Obligations.CodecFunctions
  have hindex {cfg : Config} {j : Fin 13} (hj : j.val = cfg.nP.val + 1) : j = cfg.crcIndex := Fin.ext hj
  refine ⟨fun poly c w => ?_, by decide +kernel, by decide +kernel, fun _ _ => rfl, fun cfg f hn => ?_, fun cfg f hn => ?_,
    fun cfg o p => ⟨encodeFrame_opcode cfg o p, encodeFrame_param cfg o p, fun j hj => ?_⟩, fun i => ?_, fun cfg f j hj => ?_⟩
  · rw [crcWord, crcShifts_eq_iterate]
  · have hwords : f.toList.take cfg.crcWordCount =
        [f[0], f[1], f[2], f[3], f[4], f[5], f[6], f[7], f[8], f[9], f[10], f[11]] := by
      rw [Config.crcWordCount, hn, frame_toList]
      rfl
    rw [crcFrame, crcWords, hwords]
  · have hwords : f.toList.take cfg.crcWordCount =
        [f[0], f[1], f[2], f[3], f[4], f[5], f[6], f[7], f[8], f[9], f[10]] := by
      rw [Config.crcWordCount, hn, frame_toList]
      rfl
    rw [crcFrame, crcWords, hwords]
  · rw [hindex hj, encodeFrame_crcIndex, crcFrame_encodeFrame]
  · exact Vector.getElem_replicate i.isLt
  · rw [hindex hj, verifyFrame_iff]

/-! ### The commands -/

/-- A command's row, while idle, is the command's pseudocode, and the log has the write of its code (R232). -/
theorem exec_command_idle {s : State} (hi : s.estate = .idle) (c : Command) :
    exec c.toInstr s = .next (logBus (.written 0x000 c.code) (commandBody c s)) := by
  rw [exec_command, issueCommand_idle _ _ s hi]

/-- The pseudocode of ENCODE (R116). -/
theorem commandBody_encode (s : State) :
    commandBody .encode s = { s with tx := encodeFrame s.cfg s.opcode s.param, result := .ok } := rfl

/-- The pseudocode of VERIFY (R118, R119). -/
theorem commandBody_verify (s : State) : commandBody .verify s = { s with
    crcOk := verifyFrame s.cfg s.rx, rxKind := rxKindOf s.cfg s.rx s.opcode, xferFail := false, result := .ok } := rfl

theorem verifyFrame_eq_decide (cfg : Config) (f : Frame) :
    verifyFrame cfg f = decide (crcFrame cfg f = f[cfg.crcIndex]) := by
  rw [Bool.eq_iff_iff, decide_eq_true_iff, verifyFrame_iff]

/-- Settles O19: each command while idle is its pseudocode and the write of its code to CTRL. -/
theorem encodeAndVerifyCommands : Obligations.EncodeAndVerifyCommands := by
  unfold Obligations.EncodeAndVerifyCommands
  intro s hi
  constructor
  · refine (exec_command_idle hi .encode).trans ?_
    rw [commandBody_encode]
    rfl
  · refine (exec_command_idle hi .verify).trans ?_
    rw [commandBody_verify, verifyFrame_eq_decide]
    rfl

end Sys2Proof.Machine
end

section
/-! SUPPORT. The host CRC unit over the bus (40_frame_codec.md R111 to R114, R120): the accesses to CRC_CTRL and CRC_DATA, and
lists of steps put after one another. -/

namespace Sys2Proof.Machine

open Sys2Proof

/-! ### Lists of steps -/

theorem actAll_cons {i : Input} {s t : State} (h : act i s = .next t) (is : List Input) :
    actAll (i :: is) s = actAll is t := by rw [actAll, h]

/-- Steps that all answer a next state, and then others. -/
theorem actAll_append {is : List Input} {s t : State} (h : actAll is s = .next t) (js : List Input) :
    actAll (is ++ js) s = actAll js t := by
  induction is generalizing s with
  | nil => cases h; rfl
  | cons i is ih =>
    cases ha : act i s with
    | next u =>
      rw [actAll_cons ha] at h
      rw [List.cons_append, actAll_cons ha, ih h]
    | fault r => simp [actAll, ha] at h
    | refused r => simp [actAll, ha] at h

/-! ### The accesses of the unit -/

/-- The access that carries an ACCESS row's word decodes to the row, where the block has its register (R81, R94). -/
theorem decodeBus_of_encode {cfg : Config} {a : Access} {i : Instr} (he : encode cfg i = .access a.word)
    (hp : i.present cfg = true) (hoff : a.off < 0x200) (hw : a.width = .w32) (hal : a.off % 4 = 0) :
    decodeBus cfg a = .instr i := by
  simp [decodeBus, Nat.not_le.2 hoff, hw, hal, decodeAccess_of_encode he, hp]

theorem act_crcReset (s : State) : act (.host (Access.wr 0x008 1#32)) s =
    .next { s with crcAcc := s.cfg.crcInit, busLog := s.busLog ++ [.written 0x008 1#32] } := by
  have hd : decodeBus s.cfg (Access.wr 0x008 1#32) = .instr (.crcReset 1#32) :=
    decodeBus_of_encode rfl (by simp [Instr.present, Instr.neededParams]) (by decide) rfl rfl
  rw [act_host_instr _ _ s hd, exec_crcReset]
  rfl

theorem act_crcFeed (w : Word) (s : State) : act (.host (Access.wr 0x00C w)) s =
    .next { s with crcAcc := crcWord s.cfg.crcPoly s.crcAcc w, busLog := s.busLog ++ [.written 0x00C w] } := by
  have hd : decodeBus s.cfg (Access.wr 0x00C w) = .instr (.crcFeed w) :=
    decodeBus_of_encode rfl (by simp [Instr.present, Instr.neededParams]) (by simp [Access.wr]) rfl (by simp [Access.wr])
  rw [act_host_instr _ _ s hd]
  rfl

theorem act_crcRead (s : State) : act (.host (Access.rd 0x00C)) s =
    .next { s with busLog := s.busLog ++ [.read 0x00C s.crcAcc] } := by
  have hd : decodeBus s.cfg (Access.rd 0x00C) = .instr .crcRead :=
    decodeBus_of_encode rfl (by simp [Instr.present, Instr.neededParams]) (by decide) rfl rfl
  rw [act_host_instr _ _ s hd]
  rfl

/-- Feeding a list of words over the bus folds `crc_word` over it (R112). -/
theorem actAll_crcFeed (ws : List Word) (s : State) : actAll (ws.map fun w => .host (Access.wr 0x00C w)) s =
    .next { s with
      crcAcc := ws.foldl (crcWord s.cfg.crcPoly) s.crcAcc, busLog := s.busLog ++ ws.map (.written 0x00C) } := by
  induction ws generalizing s with
  | nil => simp [actAll]
  | cons w ws ih =>
    rw [List.map_cons, actAll_cons (act_crcFeed w s), ih]
    simp

/-- Settles O43: the reset, the feeds and the read, one after another. -/
theorem hostUnitComputesTheFrameChecksum : Obligations.HostUnitComputesTheFrameChecksum := by
  unfold Obligations.HostUnitComputesTheFrameChecksum
  intro s f
  have hrun := (actAll_cons (act_crcReset s) _).trans (actAll_append (actAll_crcFeed (f.toList.take s.cfg.crcWordCount) _)
    [.host (Access.rd 0x00C)])
  rw [actAll_cons (act_crcRead _)] at hrun
  exact ⟨_, hrun, List.getLast?_concat, rfl⟩

end Sys2Proof.Machine
end

section
/-! SUPPORT. The packing of PSET into PARAM by halves (41_parameter_packing.md R140, R145 to R148): what PACK_PSET leaves in
each half of PARAM, what UNPACK_PSET reads from it, and the two commands and the two PK half writes one after the other. -/

namespace Sys2Proof.Machine

open Sys2Proof

/-! ### The halves of a packed word -/

@[simp] theorem hi16_pack16 (h l : Sub16) : hi16 (pack16 h l) = h := BitVec.extractLsb'_append_eq_left

@[simp] theorem lo16_pack16 (h l : Sub16) : lo16 (pack16 h l) = l := BitVec.extractLsb'_append_eq_right

@[simp] theorem pack16_hi16_lo16 (w : Word) : pack16 (hi16 w) (lo16 w) = w :=
  BitVec.extractLsb'_append_extractLsb' (w := 16) (len := 16)

theorem hi16_eq_setWidth_shiftRight (w : Word) : hi16 w = (w >>> 16).setWidth 16 := by
  rw [← zext32_hi16, zext32, BitVec.setWidth_setWidth_of_le _ (by decide), BitVec.setWidth_eq]

/-- A half that is replaced holds its new value (R142, R143). -/
theorem getHalf_setHalf_same (h : Half) (v : Sub16) (w : Word) : getHalf h (setHalf h v w) = v := by
  cases h with
  | hi => exact hi16_pack16 v (lo16 w)
  | lo => exact lo16_pack16 (hi16 w) v

/-- The other half is kept (R142, R143). -/
theorem getHalf_setHalf_ne {g h : Half} (hne : h ≠ g) (v : Sub16) (w : Word) :
    getHalf g (setHalf h v w) = getHalf g w := by
  cases h with
  | hi =>
    cases g with
    | hi => contradiction
    | lo => exact lo16_pack16 v (lo16 w)
  | lo =>
    cases g with
    | hi => exact hi16_pack16 (hi16 w) v
    | lo => contradiction

theorem setHalf_getHalf (h : Half) (w : Word) : setHalf h (getHalf h w) w = w := by
  cases h <;> exact pack16_hi16_lo16 w

/-! ### PACK_PSET and UNPACK_PSET on data -/

section

variable (cfg : Config) (pset : Vector Sub16 10) (param : Params)

/-- An entry goes to the half that PSET_LAYOUT gives it (R146). -/
theorem getHalf_packEntry_same (k : Fin 10) :
    getHalf (cfg.psetLayout[k]).2 (packEntry cfg pset param k)[(cfg.psetLayout[k]).1] = pset[k] := by
  have hword : (packEntry cfg pset param k)[(cfg.psetLayout[k]).1] =
      setHalf (cfg.psetLayout[k]).2 pset[k] param[(cfg.psetLayout[k]).1] := Vector.getElem_set_self _
  rw [hword, getHalf_setHalf_same]

/-- An entry leaves every half but its own as it was (R146). -/
theorem getHalf_packEntry_ne {k : Fin 10} {e : Fin 11 × Half} (h : cfg.psetLayout[k] ≠ e) :
    getHalf e.2 (packEntry cfg pset param k)[e.1] = getHalf e.2 param[e.1] := by
  obtain ⟨i, g⟩ := e
  unfold packEntry
  by_cases hi : (cfg.psetLayout[k]).1 = i
  · have hg : (cfg.psetLayout[k]).2 ≠ g := fun hg => h (Prod.ext hi hg)
    subst hi
    simp only [Fin.getElem_fin, Vector.getElem_set_self]
    exact getHalf_setHalf_ne hg _ _
  · exact congrArg (getHalf g) (Vector.getElem_set_ne _ i.isLt (Fin.val_ne_of_ne hi))

/-- The entries `ks` leave every half they do not name as it was. -/
theorem getHalf_foldl_packEntry_ne {ks : List (Fin 10)} {e : Fin 11 × Half}
    (h : ∀ k ∈ ks, cfg.psetLayout[k] ≠ e) :
    getHalf e.2 (ks.foldl (packEntry cfg pset) param)[e.1] = getHalf e.2 param[e.1] := by
  induction ks generalizing param with
  | nil => rfl
  | cons k ks ih =>
    obtain ⟨hk, hks⟩ := List.forall_mem_cons.1 h
    rw [List.foldl_cons, ih _ hks, getHalf_packEntry_ne cfg pset param hk]

theorem getElem_unpackPset (k : Fin 10) :
    (unpackPset cfg param)[k] = getHalf (cfg.psetLayout[k]).2 param[(cfg.psetLayout[k]).1] := by
  simp [unpackPset]

/-- An entry that UNPACK_PSET has read goes back to where it already is. -/
theorem packEntry_unpackPset (k : Fin 10) : packEntry cfg (unpackPset cfg param) param k = param := by
  rw [packEntry, getElem_unpackPset, setHalf_getHalf]
  exact Vector.set_getElem_self _

/-- PACK_PSET puts back what UNPACK_PSET has read (R148), and keeps every other half (log 17). -/
theorem packPset_unpackPset : packPset cfg (unpackPset cfg param) param = param :=
  List.foldl_fixed' (packEntry_unpackPset cfg param) _

variable {cfg}

theorem psetLayout_injective (hl : cfg.psetLayout.toList.Nodup) {j k : Fin 10}
    (h : cfg.psetLayout[j] = cfg.psetLayout[k]) : j = k :=
  Fin.ext ((hl.getElem_inj_iff (hi := by simp) (hj := by simp)).1 (by simpa using h))

/-- Under a one-to-one PSET_LAYOUT no later entry overwrites an earlier one: PACK_PSET leaves every `PSET[k]` in its half
(R145, R146). -/
theorem getHalf_packPset (hl : cfg.psetLayout.toList.Nodup) {k : Fin 10} {e : Fin 11 × Half}
    (he : cfg.psetLayout[k] = e) : getHalf e.2 (packPset cfg pset param)[e.1] = pset[k] := by
  subst he
  obtain ⟨before, after, hks⟩ := List.append_of_mem (List.mem_finRange k)
  have hafter : ∀ j ∈ after, cfg.psetLayout[j] ≠ cfg.psetLayout[k] := by
    intro j hj heq
    have hnodup := hks ▸ List.nodup_finRange 10
    exact (List.nodup_cons.1 hnodup.of_append_right).1 (psetLayout_injective hl heq ▸ hj)
  rw [packPset, hks, List.foldl_append, List.foldl_cons, getHalf_foldl_packEntry_ne _ _ _ hafter,
    getHalf_packEntry_same]

/-- A PARAM word both of whose halves PSET_LAYOUT names is packed from their two entries (R140, R146). -/
theorem packPset_word (hl : cfg.psetLayout.toList.Nodup) {i : Fin 11} {j k : Fin 10}
    (hj : cfg.psetLayout[j] = (i, .hi)) (hk : cfg.psetLayout[k] = (i, .lo)) :
    (packPset cfg pset param)[i] = pset[j] ++ pset[k] := by
  calc (packPset cfg pset param)[i]
      = pack16 (hi16 (packPset cfg pset param)[i]) (lo16 (packPset cfg pset param)[i]) := (pack16_hi16_lo16 _).symm
    _ = pset[j] ++ pset[k] := congrArg₂ pack16 (getHalf_packPset pset param hl hj) (getHalf_packPset pset param hl hk)

/-- UNPACK_PSET reads back what PACK_PSET put in place (R148). -/
theorem unpackPset_packPset (hl : cfg.psetLayout.toList.Nodup) :
    unpackPset cfg (packPset cfg pset param) = pset :=
  Vector.ext fun k hk => (getElem_unpackPset cfg _ ⟨k, hk⟩).trans (getHalf_packPset pset param hl rfl)

/-- PACK_PSET under the default PSET_LAYOUT, word by word (R145, R146). -/
theorem packPset_default (hl : cfg.psetLayout = Config.defaultPsetLayout) :
    packPset cfg pset param =
      #v[pset[0] ++ pset[1], pset[2] ++ pset[3], pset[4] ++ pset[5], pset[6] ++ pset[7], pset[8] ++ pset[9],
        param[5], param[6], param[7], param[8], param[9], param[10]] := by
  have hnodup : cfg.psetLayout.toList.Nodup := by rw [hl]; decide
  have hpacked (n : Fin 5) : (packPset cfg pset param)[n] = pset[2 * n.val] ++ pset[2 * n.val + 1] := by
    have hhi : ∀ n : Fin 5, Config.defaultPsetLayout[2 * n.val] = (n.castLE (by decide), .hi) := by decide
    have hlo : ∀ n : Fin 5, Config.defaultPsetLayout[2 * n.val + 1] = (n.castLE (by decide), .lo) := by decide
    exact packPset_word (j := ⟨2 * n, by omega⟩) (k := ⟨2 * n + 1, by omega⟩) pset param hnodup
      (hl ▸ hhi n) (hl ▸ hlo n)
  have hnamed : ∀ k : Fin 10, (Config.defaultPsetLayout[k.val]).1.val < 5 := by decide
  have hkept (i : Fin 11) (hi : 5 ≤ i.val) : (packPset cfg pset param)[i] = param[i] := by
    refine packPset_unnamed cfg pset param i fun k hk => ?_
    have hlt : (cfg.psetLayout[k]).1.val < 5 := hl ▸ hnamed k
    omega
  apply Vector.ext
  intro i hi
  rcases Nat.lt_or_ge i 5 with hlt | hge
  · refine (hpacked ⟨i, hlt⟩).trans ?_
    interval_cases i <;> rfl
  · refine (hkept ⟨i, hi⟩ hge).trans ?_
    interval_cases i <;> rfl

/-- UNPACK_PSET under the default PSET_LAYOUT, entry by entry (R145, R147). -/
theorem unpackPset_default (hl : cfg.psetLayout = Config.defaultPsetLayout) :
    unpackPset cfg param =
      #v[(param[0] >>> 16).setWidth 16, param[0].setWidth 16, (param[1] >>> 16).setWidth 16, param[1].setWidth 16,
        (param[2] >>> 16).setWidth 16, param[2].setWidth 16, (param[3] >>> 16).setWidth 16, param[3].setWidth 16,
        (param[4] >>> 16).setWidth 16, param[4].setWidth 16] := by
  rw [unpackPset, hl]
  simp [Config.defaultPsetLayout, getHalf, hi16_eq_setWidth_shiftRight, lo16_eq_setWidth]

end

/-! ### The commands -/

/-- `PACK_PSET` while idle (R146). -/
theorem exec_packPset_idle {s : State} (hi : s.estate = .idle) : exec .packPset s = .next { s with
    param := packPset s.cfg s.pset s.param, result := .ok, busLog := s.busLog ++ [.written 0x000 6#32] } :=
  exec_command_idle hi .packPset

/-- `UNPACK_PSET` while idle (R147). -/
theorem exec_unpackPset_idle {s : State} (hi : s.estate = .idle) : exec .unpackPset s = .next { s with
    pset := unpackPset s.cfg s.param, result := .ok, busLog := s.busLog ++ [.written 0x000 7#32] } :=
  exec_command_idle hi .unpackPset

/-- Settles O21: PACK_PSET and UNPACK_PSET by the table of the default layout. -/
theorem packAndUnpackDefaultLayout : Obligations.PackAndUnpackDefaultLayout := by
  unfold Obligations.PackAndUnpackDefaultLayout
  intro s hi hl
  rw [← packPset_default _ _ hl, ← unpackPset_default _ hl]
  exact ⟨exec_packPset_idle hi, exec_unpackPset_idle hi⟩

/-- Settles O44: each round trip on data, and the half writes in both orders. -/
theorem packingRoundTrips : Obligations.PackingRoundTrips := by
  unfold Obligations.PackingRoundTrips
  refine ⟨fun s hi hl => ⟨?_, ?_⟩, fun s h l => ⟨?_, ?_⟩, pack16_hi16_lo16,
    fun h l => ⟨pack16_eq_or h l, hi16_pack16 h l, lo16_pack16 h l⟩⟩
  · exact ⟨_, _, exec_packPset_idle hi, exec_unpackPset_idle hi, unpackPset_packPset s.pset s.param hl⟩
  · exact ⟨_, _, exec_unpackPset_idle hi, exec_packPset_idle hi, packPset_unpackPset s.cfg s.param⟩
  · refine ⟨_, _, rfl, rfl, ?_⟩
    change pack16 (hi16 (pack16 (lo16 h) (lo16 s.pk))) (lo16 l) = _
    rw [hi16_pack16, lo16_eq_setWidth, lo16_eq_setWidth, pack16]
  · refine ⟨_, _, rfl, rfl, ?_⟩
    change pack16 (lo16 h) (lo16 (pack16 (hi16 s.pk) (lo16 l))) = _
    rw [lo16_pack16, lo16_eq_setWidth, lo16_eq_setWidth, pack16]

end Sys2Proof.Machine
end

section
/-! SUPPORT. Every long command ends (42_transport_port.md R170): how many engine steps it can still take, which each engine step
against an environment that completes its transactions makes fewer. -/

namespace Sys2Proof.Machine

open Sys2Proof

/-! ### The steps a long command can still take -/

/-- The steps one attempt can take: four of the sequencer (R211 to R215), four for each unit of the outer budget (R182 to R187)
and five for each inner attempt (R188 to R192), and the check that ends the handshake. -/
def attemptSteps (s : State) : Nat := 4 * s.outerBudget.toNat + 5 * s.innerBudget.toNat + 5

/-- The attempts that can follow the present one (R180, R210, R216). -/
def attemptsAfter (s : State) : Nat :=
  match s.eop with
  | .identify => 4 - s.attempt.toNat
  | .configure => 9 - s.attempt.toNat
  | .handshake | .none => 0

/-- The steps the present attempt can still take from the microstate `e`, the evaluation included (R182 to R192, R211 to R215). -/
def stepsAt (e : EState) (s : State) : Nat :=
  match e with
  | .idle => 0
  | .sqStart => attemptSteps s
  | .sqReset => 4 * s.outerBudget.toNat + 5 * s.innerBudget.toNat + 4
  | .sqBackoff => 4 * s.outerBudget.toNat + 5 * s.innerBudget.toNat + 3
  | .hsOuterCheck => 4 * s.outerRemain.toNat + 5 * s.innerBudget.toNat + 2
  | .hsOuterSleep => 4 * s.outerRemain.toNat + 5 * s.innerBudget.toNat + 1
  | .hsOuterPoll => 4 * s.outerRemain.toNat + 5 * s.innerBudget.toNat + 4
  | .hsOuterXfer => 4 * s.outerRemain.toNat + 5 * s.innerBudget.toNat + 3
  | .hsInnerCheck => 5 * (s.innerBudget.toNat - s.innerCount.toNat) + 2
  | .hsInnerSettle => 5 * (s.innerBudget.toNat - s.innerCount.toNat) + 6
  | .hsInnerSleep => 5 * (s.innerBudget.toNat - s.innerCount.toNat) + 5
  | .hsInnerPoll => 5 * (s.innerBudget.toNat - s.innerCount.toNat) + 4
  | .hsInnerXfer => 5 * (s.innerBudget.toNat - s.innerCount.toNat) + 3
  | .sqEval => 1

/-- The engine steps a long command can still take (R170). -/
def stepsLeft (s : State) : Nat := stepsAt s.estate s + attemptsAfter s * attemptSteps s

section

variable {s : State}

/-- An attempt takes at most its share. -/
theorem stepsAt_le_attemptSteps (h : Inv s) : stepsAt s.estate s ≤ attemptSteps s := by
  unfold stepsAt attemptSteps
  cases he : s.estate with
  | hsOuterCheck | hsOuterSleep | hsOuterPoll | hsOuterXfer | hsInnerCheck | hsInnerSleep | hsInnerPoll | hsInnerXfer =>
    have hremain := h.remainBound (by rw [he]; rfl)
    dsimp only
    omega
  | hsInnerSettle =>
    have hbudget := h.countBound (by rw [he]; rfl)
    have hcounted := h.attemptCounted (by rw [he]; rfl)
    dsimp only
    bv_omega
  | idle | sqStart | sqReset | sqBackoff | sqEval =>
    dsimp only [attemptSteps]
    omega

/-- No long command has more attempts than CONFIGURE (R5, R216). -/
theorem attemptsAfter_le (s : State) : attemptsAfter s ≤ 9 := by
  unfold attemptsAfter
  split <;> omega

/-- The steps left are at most those of ten attempts. -/
theorem stepsLeft_le (h : Inv s) : stepsLeft s ≤ 10 * attemptSteps s :=
  calc stepsLeft s ≤ attemptSteps s + 9 * attemptSteps s :=
        Nat.add_le_add (stepsAt_le_attemptSteps h) (Nat.mul_le_mul_right _ (attemptsAfter_le s))
    _ = 10 * attemptSteps s := by omega

/-- A step within an attempt leaves fewer steps when the attempt itself has fewer left. -/
theorem stepsLeft_lt {e : EState} {t : State} (he : s.estate = e) (hafter : attemptsAfter t = attemptsAfter s)
    (hattempt : attemptSteps t = attemptSteps s) (h : stepsAt t.estate t < stepsAt e s) : stepsLeft t < stepsLeft s := by
  subst he
  unfold stepsLeft
  rw [hafter, hattempt]
  exact Nat.add_lt_add_right h _

/-- An ended command has no step left. -/
theorem stepsLeft_endLong (r : ResultCode) (s : State) : stepsLeft (endLong r s) = 0 := by
  simp [stepsLeft, stepsAt, attemptsAfter, endLong]

theorem stepsLeft_pos (hb : s.estate ≠ .idle) : 0 < stepsLeft s := by
  refine Nat.add_pos_left ?_ _
  unfold stepsAt
  cases he : s.estate with
  | idle => exact absurd he hb
  | _ => exact Nat.succ_pos _

/-- A finished handshake leaves at most the evaluation of its attempt (R195). -/
theorem stepsLeft_hsFinish_lt {e : EState} {t : State} (he : s.estate = e) (hafter : attemptsAfter t = attemptsAfter s)
    (hattempt : attemptSteps t = attemptSteps s) (h : 1 < stepsAt e s) (r : HsResult) :
    stepsLeft (hsFinish r t) < stepsLeft s := by
  by_cases hop : t.eop = .handshake
  · rw [hsFinish_handshake r t hop, stepsLeft_endLong]
    exact Nat.add_pos_left (he ▸ Nat.zero_lt_of_lt h) _
  · rw [hsFinish_sequencer r t hop]
    exact stepsLeft_lt he hafter hattempt h

/-! ### The engine's rules -/

/-- A completed transfer goes on from `exchanged` (R165, R166). -/
theorem exchangeThen_exchanged (k : State → State) (hc : s.port.completes = true) : exchangeThen k s = k (exchanged s) :=
  exchangeThen_completes k s hc

theorem attemptsAfter_exchanged (s : State) : attemptsAfter (exchanged s) = attemptsAfter s := by
  simp [attemptsAfter, exchanged]

theorem attemptSteps_exchanged (s : State) : attemptSteps (exchanged s) = attemptSteps s := by
  simp [attemptSteps, exchanged]

/-- A transfer touches no counter (R166, R119). -/
theorem stepsAt_exchanged (e : EState) (s : State) : stepsAt e (exchanged s) = stepsAt e s := by
  cases e <;> simp [stepsAt, attemptSteps, exchanged]

/-- R182. -/
theorem outerCheck_stepsLeft (he : s.estate = .hsOuterCheck) : stepsLeft (outerCheck s) < stepsLeft s := by
  unfold outerCheck
  split
  · exact stepsLeft_hsFinish_lt he rfl rfl (Nat.le_add_left 2 _) _
  · exact stepsLeft_lt he rfl rfl (Nat.lt_succ_self _)

/-- R183: the sleep takes a unit of budget, which pays for the four steps of a round. -/
theorem outerSleep_stepsLeft (hc : s.port.completes = true) (h : Inv s) (he : s.estate = .hsOuterSleep) :
    stepsLeft (outerSleep s) < stepsLeft s := by
  have hcredit := h.sleepCredit he
  unfold outerSleep sleepThen
  rw [transact_completes _ _ s hc]
  refine stepsLeft_lt he rfl rfl ?_
  simp only [stepsAt, goto, emit]
  bv_omega

/-- R184, R185: READY_COST only makes the rounds fewer. -/
theorem outerPoll_stepsLeft (hc : s.port.completes = true) (he : s.estate = .hsOuterPoll) :
    stepsLeft (outerPoll s) < stepsLeft s := by
  have hcost := satSub_toNat_le s.outerRemain s.readyCost
  unfold outerPoll readyThen
  rw [transact_completes _ _ s hc]
  dsimp only
  split
  · refine stepsLeft_lt he rfl rfl ?_
    simp only [stepsAt, goto, emit]
    omega
  · refine stepsLeft_lt he rfl rfl ?_
    simp [stepsAt]

/-- R186, R187. -/
theorem outerXfer_stepsLeft (hc : s.port.completes = true) (he : s.estate = .hsOuterXfer) :
    stepsLeft (outerXfer s) < stepsLeft s := by
  have hafter := attemptsAfter_exchanged s
  have hattempt := attemptSteps_exchanged s
  unfold outerXfer
  rw [exchangeThen_exchanged _ hc]
  split
  · refine stepsLeft_lt he hafter hattempt ?_
    simp [stepsAt, exchanged]
  · exact stepsLeft_lt he hafter hattempt ((stepsAt_exchanged .hsOuterCheck s).trans_lt (Nat.lt_succ_self _))

/-- R188: a counted attempt pays for its five steps. -/
theorem innerCheck_stepsLeft (he : s.estate = .hsInnerCheck) : stepsLeft (innerCheck s) < stepsLeft s := by
  unfold innerCheck
  split
  · exact stepsLeft_hsFinish_lt he rfl rfl (Nat.le_add_left 2 _) _
  · refine stepsLeft_lt he rfl rfl ?_
    simp only [stepsAt, goto]
    bv_omega

/-- A transaction of an inner attempt that goes on to its next microstate (R189, R190). -/
theorem transact_goto_stepsLeft {e e' : EState} (hc : s.port.completes = true) (he : s.estate = e)
    (h : stepsAt e' s < stepsAt e s) (ev : PortEvent) : stepsLeft (transact ev (goto e') s) < stepsLeft s := by
  rw [transact_completes ev _ s hc]
  refine stepsLeft_lt he rfl rfl ?_
  cases e' <;> exact h

/-- R189, for any probe opcode. -/
theorem innerSettle_stepsLeft (hc : s.port.completes = true) (he : s.estate = .hsInnerSettle) (op : Word) :
    stepsLeft (innerSettle op s) < stepsLeft s := by
  rw [innerSettle_completes hc]
  exact stepsLeft_lt he rfl rfl (Nat.lt_succ_self _)

/-- R191. -/
theorem innerPoll_stepsLeft (hc : s.port.completes = true) (he : s.estate = .hsInnerPoll) :
    stepsLeft (innerPoll s) < stepsLeft s := by
  unfold innerPoll readyThen
  rw [transact_completes _ _ s hc]
  cases s.port.ready with
  | false => exact stepsLeft_lt he rfl rfl (Nat.add_lt_add_left (by decide) _)
  | true => exact stepsLeft_lt he rfl rfl (Nat.lt_succ_self _)

/-- R192. -/
theorem innerXfer_stepsLeft (hc : s.port.completes = true) (he : s.estate = .hsInnerXfer) :
    stepsLeft (innerXfer s) < stepsLeft s := by
  have hafter := attemptsAfter_exchanged s
  have hattempt := attemptSteps_exchanged s
  unfold innerXfer
  rw [exchangeThen_exchanged _ hc]
  split
  · exact stepsLeft_hsFinish_lt he hafter hattempt (Nat.le_add_left 2 _) _
  · exact stepsLeft_lt he hafter hattempt ((stepsAt_exchanged .hsInnerCheck s).trans_lt (Nat.lt_succ_self _))

/-- R211. -/
theorem sqStart_stepsLeft (he : s.estate = .sqStart) : stepsLeft (sqStart s) < stepsLeft s := by
  unfold sqStart
  split
  · exact stepsLeft_lt he rfl rfl (Nat.lt_succ_self _)
  · refine stepsLeft_lt he rfl rfl ?_
    simp [stepsAt, attemptSteps, hsBegin]

/-- R215: a handshake begins with its whole outer budget. -/
theorem sqBackoff_stepsLeft (hc : s.port.completes = true) (he : s.estate = .sqBackoff) :
    stepsLeft (sqBackoff s) < stepsLeft s := by
  unfold sqBackoff sleepThen
  rw [transact_completes _ _ s hc]
  exact stepsLeft_lt he rfl rfl (Nat.lt_succ_self _)

/-- The next attempt is one of those that could follow (R212, R213). -/
theorem nextAttempt_stepsLeft (he : s.estate = .sqEval) (h : attemptsAfter s = attemptsAfter (nextAttempt s) + 1) :
    stepsLeft (nextAttempt s) < stepsLeft s := by
  unfold stepsLeft
  rw [he, h]
  change attemptSteps s + attemptsAfter (nextAttempt s) * attemptSteps s <
    1 + (attemptsAfter (nextAttempt s) + 1) * attemptSteps s
  rw [Nat.succ_mul]
  omega

theorem evalIdentify_stepsLeft (he : s.estate = .sqEval) (hop : s.eop = .identify) (ha : s.attempt.toNat < 5) :
    stepsLeft (evalIdentify s) < stepsLeft s := by
  have hend (t : State) (r : ResultCode) : stepsLeft (endLong r t) < stepsLeft s := by
    rw [stepsLeft_endLong]
    exact stepsLeft_pos (by simp [he])
  unfold evalIdentify
  split
  · split <;> exact hend _ _
  split
  · exact hend _ _
  · rename_i hlast
    refine nextAttempt_stepsLeft he ?_
    simp only [attemptsAfter, nextAttempt, goto, hop]
    unfold idAttempts at hlast
    bv_omega

theorem evalConfigure_stepsLeft (he : s.estate = .sqEval) (hop : s.eop = .configure) (ha : s.attempt.toNat < 10) :
    stepsLeft (evalConfigure s) < stepsLeft s := by
  have hend (t : State) (r : ResultCode) : stepsLeft (endLong r t) < stepsLeft s := by
    rw [stepsLeft_endLong]
    exact stepsLeft_pos (by simp [he])
  unfold evalConfigure
  split
  · exact hend _ _
  split
  · exact hend _ _
  · rename_i hlast
    refine nextAttempt_stepsLeft he ?_
    simp only [attemptsAfter, nextAttempt, goto, hop]
    unfold cfgAttempts at hlast
    bv_omega

/-- R212, R213. -/
theorem sqEval_stepsLeft (h : Inv s) (he : s.estate = .sqEval) : stepsLeft (sqEval s) < stepsLeft s := by
  unfold sqEval
  rcases h.sequencerOp (by rw [he]; rfl) with hop | hop <;> rw [hop]
  · exact evalIdentify_stepsLeft he hop (h.identifyAttempt hop)
  · exact evalConfigure_stepsLeft he hop (h.configureAttempt hop)

/-- Every step of a busy engine whose transactions complete leaves fewer steps. -/
theorem engineStep_stepsLeft (h : Inv s) (hc : s.port.completes = true) (hb : s.estate ≠ .idle) :
    stepsLeft (engineStep s) < stepsLeft s := by
  unfold engineStep
  cases he : s.estate with
  | idle => exact absurd he hb
  | hsOuterCheck => exact outerCheck_stepsLeft he
  | hsOuterSleep => exact outerSleep_stepsLeft hc h he
  | hsOuterPoll => exact outerPoll_stepsLeft hc he
  | hsOuterXfer => exact outerXfer_stepsLeft hc he
  | hsInnerCheck => exact innerCheck_stepsLeft he
  | hsInnerSettle => exact innerSettle_stepsLeft hc he _
  | hsInnerSleep => exact transact_goto_stepsLeft hc he (Nat.lt_succ_self _) _
  | hsInnerPoll => exact innerPoll_stepsLeft hc he
  | hsInnerXfer => exact innerXfer_stepsLeft hc he
  | sqStart => exact sqStart_stepsLeft he
  | sqReset => exact transact_goto_stepsLeft hc he (Nat.lt_succ_self _) _
  | sqBackoff => exact sqBackoff_stepsLeft hc he
  | sqEval => exact sqEval_stepsLeft h he

end

/-- A run of the engine against an environment that completes its transactions is idle before its steps are used up (R170). -/
theorem engineRun_reaches_idle {oracle : Oracle} (hc : oracle.Completes) (k : Nat) {s : State} (h : Inv s)
    (hk : stepsLeft s ≤ k) : ∃ t n, engineRun oracle n s = .next t ∧ t.estate = .idle ∧ n ≤ k := by
  induction k generalizing s with
  | zero =>
    by_cases hb : s.estate = .idle
    · exact ⟨s, 0, rfl, hb, le_rfl⟩
    · exact absurd (stepsLeft_pos hb) (Nat.not_lt.2 hk)
  | succ k ih =>
    by_cases hb : s.estate = .idle
    · exact ⟨s, 0, rfl, hb, Nat.zero_le _⟩
    · have hp : Inv { s with port := oracle s.trace.length } := { h with }
      have hfewer := engineStep_stepsLeft hp (hc _) hb
      obtain ⟨t, n, hrun, hidle, hn⟩ := ih (engineStep_inv hp) (Nat.le_of_lt_succ (Nat.lt_of_lt_of_le hfewer hk))
      exact ⟨t, n + 1, by rw [engineRun_succ, hrun], hidle, Nat.succ_le_succ hn⟩

/-- Settles O58: the steps left bound the run, and they are at most those of ten attempts. -/
theorem longCommandsTerminate : Obligations.LongCommandsTerminate := by
  unfold Obligations.LongCommandsTerminate
  intro s oracle h hc
  obtain ⟨t, n, hrun, hidle, hn⟩ := engineRun_reaches_idle hc _ h le_rfl
  have hbound := hn.trans (stepsLeft_le h)
  unfold attemptSteps at hbound
  exact ⟨t, n, hrun, hidle, by omega⟩

end Sys2Proof.Machine
end

section
/-! SUPPORT. The port transactions of an engine step (42_transport_port.md): what the step adds to the trace (R160 to R165, R193),
and that it does nothing while the environment does not complete its transaction (R169). -/

namespace Sys2Proof.Machine

open Sys2Proof

/-! ### What a step adds to the trace -/

/-- The transactions an engine step of the block `s` may issue: an Exchange sends TX (R165, R193), and a Sleep lasts one of the
durations of R162. -/
def Issuable (s : State) (e : PortEvent) : Prop :=
  match e with
  | .exchange sent _ => sent = s.tx
  | .sleep ms => ms = 1#32 ∨ ms = 600#32 ∨ ms = 10#32 ∨ ms = 300#32 * s.attempt
  | .ready _ | .resetDev => True

/-- The trace of `t` is that of `s`, or has one transaction of `s` more (R161). -/
def AddsAtMostOne (s t : State) : Prop := t.trace = s.trace ∨ ∃ e, t.trace = s.trace ++ [e] ∧ Issuable s e

section

variable {s : State}

theorem issuable_pollMs : Issuable s (.sleep pollMs) := .inl rfl

theorem issuable_eraseSettleMs : Issuable s (.sleep eraseSettleMs) := .inr (.inl rfl)

theorem issuable_writeSettleMs : Issuable s (.sleep writeSettleMs) := .inr (.inr (.inl rfl))

theorem issuable_backoff : Issuable s (.sleep (backoffDuration s.attempt)) := .inr (.inr (.inr rfl))

/-- A transaction is all its step adds when what follows it adds none (R160, R169). -/
theorem transact_addsAtMostOne {e : PortEvent} {k : State → State} (he : Issuable s e)
    (hk : ∀ t, (k t).trace = t.trace) : AddsAtMostOne s (transact e k s) :=
  transact_induction (.inl rfl) (.inr ⟨e, hk _, he⟩)

/-- R163. -/
theorem readyThen_addsAtMostOne {k : Bool → State → State} (hk : ∀ b t, (k b t).trace = t.trace) :
    AddsAtMostOne s (readyThen k s) := transact_addsAtMostOne trivial (hk _)

/-- R165, R166. -/
theorem exchangeThen_addsAtMostOne {k : State → State} (hk : ∀ t, (k t).trace = t.trace) :
    AddsAtMostOne s (exchangeThen k s) := transact_addsAtMostOne rfl fun t => by simp [hk]

theorem outerCheck_trace (s : State) : (outerCheck s).trace = s.trace := by
  unfold outerCheck
  split <;> simp

theorem innerCheck_trace (s : State) : (innerCheck s).trace = s.trace := by
  unfold innerCheck
  split <;> simp

theorem outerXfer_addsAtMostOne (s : State) : AddsAtMostOne s (outerXfer s) :=
  exchangeThen_addsAtMostOne fun t => by split <;> rfl

theorem innerXfer_addsAtMostOne (s : State) : AddsAtMostOne s (innerXfer s) :=
  exchangeThen_addsAtMostOne fun t => by split <;> simp

/-- R189, for any probe opcode. -/
theorem innerSettle_addsAtMostOne (op : Word) (s : State) : AddsAtMostOne s (innerSettle op s) := by
  unfold innerSettle
  split
  · exact transact_addsAtMostOne issuable_eraseSettleMs fun _ => rfl
  split
  · exact transact_addsAtMostOne issuable_writeSettleMs fun _ => rfl
  · exact .inl rfl

theorem sqStart_trace (s : State) : (sqStart s).trace = s.trace := by
  unfold sqStart
  split <;> rfl

theorem evalIdentify_trace (s : State) : (evalIdentify s).trace = s.trace := by
  unfold evalIdentify
  repeat' split
  all_goals rfl

theorem evalConfigure_trace (s : State) : (evalConfigure s).trace = s.trace := by
  unfold evalConfigure
  repeat' split
  all_goals rfl

theorem sqEval_trace (s : State) : (sqEval s).trace = s.trace := by
  unfold sqEval
  split
  · exact evalIdentify_trace s
  · exact evalConfigure_trace s
  all_goals rfl

/-- What every engine step adds to the trace, by its microstate. -/
theorem engineStep_addsAtMostOne (s : State) : AddsAtMostOne s (engineStep s) := by
  unfold engineStep
  cases s.estate with
  | idle => exact .inl rfl
  | hsOuterCheck => exact .inl (outerCheck_trace s)
  | hsOuterSleep | hsInnerSleep => exact transact_addsAtMostOne issuable_pollMs fun _ => rfl
  | hsOuterPoll | hsInnerPoll => exact readyThen_addsAtMostOne fun b _ => by cases b <;> rfl
  | hsOuterXfer => exact outerXfer_addsAtMostOne s
  | hsInnerCheck => exact .inl (innerCheck_trace s)
  | hsInnerSettle => exact innerSettle_addsAtMostOne _ s
  | hsInnerXfer => exact innerXfer_addsAtMostOne s
  | sqStart => exact .inl (sqStart_trace s)
  | sqReset => exact transact_addsAtMostOne trivial fun _ => rfl
  | sqBackoff => exact transact_addsAtMostOne issuable_backoff fun _ => rfl
  | sqEval => exact .inl (sqEval_trace s)

/-! ### A transaction that does not complete -/

/-- An administrative settle the environment does not complete (R169, R189). -/
theorem innerSettle_waits {op : Word} (hc : s.port.completes = false)
    (hop : op = s.cfg.opcBlEraseAll ∨ op = s.cfg.opcBlWriteFirmware) : innerSettle op s = s := by
  unfold innerSettle
  split
  · exact transact_waits _ _ s hc
  · rename_i herase
    rw [if_pos (hop.resolve_left herase)]
    exact transact_waits _ _ s hc

theorem readyThen_waits (k : Bool → State → State) (hc : s.port.completes = false) : readyThen k s = s :=
  transact_waits _ _ s hc

theorem exchangeThen_waits (k : State → State) (hc : s.port.completes = false) : exchangeThen k s = s :=
  transact_waits _ _ s hc

theorem sleepThen_waits (ms : Word) (k : State → State) (hc : s.port.completes = false) : sleepThen ms k s = s :=
  transact_waits _ _ s hc

/-- In the microstates that issue a transaction whatever the probe the step is the transaction (R169). -/
theorem engineStep_waits (hc : s.port.completes = false) (he : s.estate.issuesTransaction = true) :
    engineStep s = s := by
  unfold engineStep
  cases hs : s.estate with
  | hsOuterSleep | hsInnerSleep | sqBackoff => exact sleepThen_waits _ _ hc
  | hsOuterPoll | hsInnerPoll => exact readyThen_waits _ hc
  | hsOuterXfer | hsInnerXfer => exact exchangeThen_waits _ hc
  | sqReset => exact transact_waits _ _ s hc
  | idle | hsOuterCheck | hsInnerCheck | hsInnerSettle | sqStart | sqEval =>
    simp [hs, EState.issuesTransaction] at he

/-- In HS_INNER_SETTLE with an administrative probe the step is the settle's Sleep (R169, R189). -/
theorem engineStep_settle_waits (hc : s.port.completes = false) (he : s.estate = .hsInnerSettle)
    (hop : s.tx[0] = s.cfg.opcBlEraseAll ∨ s.tx[0] = s.cfg.opcBlWriteFirmware) : engineStep s = s := by
  unfold engineStep
  rw [he]
  exact innerSettle_waits hc hop

end

/-- Settles O52: an engine step is its microstate's rule, which keeps TX and the log and adds at most one transaction. -/
theorem engineStepIssuesOneTransaction : Obligations.EngineStepIssuesOneTransaction := by
  unfold Obligations.EngineStepIssuesOneTransaction
  intro s ans
  have hframe := engineStep_frame { s with port := ans }
  refine ⟨_, engineStepsFollowTheMicrostate s ans, hframe.busLog, hframe.tx, ?_⟩
  refine (engineStep_addsAtMostOne { s with port := ans }).imp_right fun ⟨e, htrace, he⟩ => ⟨e, htrace, ?_, ?_⟩
  · rintro f g rfl
    exact he
  · rintro ms rfl
    exact he

/-- Settles O53: the step is a transaction that waits, and block reset ends in IDLE from every state. -/
theorem uncompletedTransactionsWait : Obligations.UncompletedTransactionsWait := by
  unfold Obligations.UncompletedTransactionsWait
  intro s ans hc hissues
  refine ⟨(engineStepsFollowTheMicrostate s ans).trans (congrArg _ ?_), _, act_blockReset s, rfl⟩
  rcases hissues with hissues | ⟨he, hop⟩
  · exact engineStep_waits (s := { s with port := ans }) hc hissues
  · exact engineStep_settle_waits (s := { s with port := ans }) hc he hop

end Sys2Proof.Machine
end

section
/-! SUPPORT. The microstates of the engine one by one (43_handshake.md R182 to R192; 44_attempt_sequencer.md R211, R214, R215):
the state each rule leaves when its transaction completes, and the statements about single steps. -/

namespace Sys2Proof.Machine

open Sys2Proof

/-! ### The engine in a microstate -/

/-- The block `s` with the engine in the microstate `e` and the environment's answer `p` presented to its step. -/
def engineAt (e : EState) (p : EnvAnswer) (s : State) : State := { s with estate := e, port := p }

/-- An engine step is the rule of its microstate at the answer it is given (R40, R160). -/
theorem act_engineAt {s : State} {e : EState} (he : s.estate = e) (ans : EnvAnswer) :
    act (.engine ans) s = .next (engineStep (engineAt e ans s)) := by
  subst he
  exact engineStepsFollowTheMicrostate s ans

/-- The block `s` with the environment's answer `p` presented to it. -/
def withPort (p : EnvAnswer) (s : State) : State := { s with port := p }

/-- The end of a handshake does not depend on the microstate it comes from (R195). -/
theorem hsFinish_engineAt (r : HsResult) (e : EState) (p : EnvAnswer) (s : State) :
    hsFinish r (engineAt e p s) = hsFinish r (withPort p s) := by
  unfold hsFinish engineAt withPort
  cases s.eop <;> rfl

/-- The block after a failed Exchange holds the draws in RX (R166, R119). -/
theorem exchanged_fail {s : State} (hok : s.port.ok = false) : exchanged s = lost s.port (drawFrame s.cfg s.draws) s := by
  simp [exchanged, hok, receive_fail, rxCheck_fail, lost, emit]

section

variable (s : State) (p : EnvAnswer)

/-- R182. -/
theorem engineStep_outerCheck : engineStep (engineAt .hsOuterCheck p s) =
    if s.outerRemain = 0#32 then hsFinish .timeout (engineAt .hsOuterCheck p s) else engineAt .hsOuterSleep p s := rfl

/-- R188. -/
theorem engineStep_innerCheck : engineStep (engineAt .hsInnerCheck p s) =
    if s.innerBudget ≤ s.innerCount then hsFinish .protocol (engineAt .hsInnerCheck p s)
    else engineAt .hsInnerSettle p { s with innerCount := s.innerCount + 1#32 } := rfl

/-- R211. -/
theorem engineStep_sqStart : engineStep (engineAt .sqStart p s) =
    if s.eop = .configure ∧ 1#32 ≤ s.attempt then engineAt .sqReset p s
    else engineAt .hsOuterCheck p { s with outerRemain := s.outerBudget, innerCount := 0#32 } := rfl

variable {p} (hc : p.completes = true)

include hc

/-- R183. -/
theorem engineStep_outerSleep : engineStep (engineAt .hsOuterSleep p s) =
    engineAt .hsOuterPoll p { emit (.sleep 1#32) s with outerRemain := s.outerRemain - 1#32 } := by
  change outerSleep _ = _
  unfold outerSleep sleepThen
  rw [transact_completes _ _ _ hc]
  rfl

/-- R184, R185. -/
theorem engineStep_outerPoll : engineStep (engineAt .hsOuterPoll p s) =
    if p.ready then
      engineAt .hsOuterXfer p { emit (.ready p.ready) s with outerRemain := satSub s.outerRemain s.readyCost }
    else engineAt .hsOuterCheck p (emit (.ready p.ready) s) := by
  change outerPoll _ = _
  unfold outerPoll readyThen
  rw [transact_completes _ _ _ hc]
  rfl

/-- R186, R187, before the engine decides. -/
theorem engineStep_outerXfer : engineStep (engineAt .hsOuterXfer p s) =
    if listeningAck (exchanged (engineAt .hsOuterXfer p s)) then
      goto .hsInnerCheck { exchanged (engineAt .hsOuterXfer p s) with innerCount := 0#32 }
    else goto .hsOuterCheck (exchanged (engineAt .hsOuterXfer p s)) := by
  change outerXfer _ = _
  unfold outerXfer
  rw [exchangeThen_exchanged (s := engineAt .hsOuterXfer p s) _ hc]

/-- R189. -/
theorem engineStep_innerSettle : engineStep (engineAt .hsInnerSettle p s) =
    engineAt .hsInnerSleep p { s with trace := s.trace ++ settleEvents s.cfg s.tx[0] } :=
  innerSettle_completes (s := engineAt .hsInnerSettle p s) hc _

/-- R190. -/
theorem engineStep_innerSleep : engineStep (engineAt .hsInnerSleep p s) =
    engineAt .hsInnerPoll p (emit (.sleep 1#32) s) :=
  transact_completes _ _ (engineAt .hsInnerSleep p s) hc

/-- R191. -/
theorem engineStep_innerPoll : engineStep (engineAt .hsInnerPoll p s) =
    engineAt (if p.ready then .hsInnerXfer else .hsInnerCheck) p (emit (.ready p.ready) s) := by
  change innerPoll _ = _
  unfold innerPoll readyThen
  rw [transact_completes _ _ _ hc, apply_ite (engineAt · p _)]
  rfl

/-- R192, before the engine decides. -/
theorem engineStep_innerXfer : engineStep (engineAt .hsInnerXfer p s) =
    if echoed (exchanged (engineAt .hsInnerXfer p s)) then hsFinish .ok (exchanged (engineAt .hsInnerXfer p s))
    else goto .hsInnerCheck (exchanged (engineAt .hsInnerXfer p s)) := by
  change innerXfer _ = _
  unfold innerXfer
  rw [exchangeThen_exchanged (s := engineAt .hsInnerXfer p s) _ hc]

/-- R214. -/
theorem engineStep_sqReset : engineStep (engineAt .sqReset p s) = engineAt .sqBackoff p (emit .resetDev s) :=
  transact_completes _ _ (engineAt .sqReset p s) hc

/-- R215. -/
theorem engineStep_sqBackoff : engineStep (engineAt .sqBackoff p s) =
    engineAt .hsOuterCheck p
      { emit (.sleep (300#32 * s.attempt)) s with outerRemain := s.outerBudget, innerCount := 0#32 } :=
  transact_completes _ _ (engineAt .sqBackoff p s) hc

end

/-! ### The statements about single steps -/

/-- Settles O22: each command is issued while idle, so its pseudocode is what the step does. -/
theorem longCommandsStart : Obligations.LongCommandsStart := by
  unfold Obligations.LongCommandsStart
  intro s hi
  refine ⟨(exec_command_idle hi .handshake).trans ?_, (exec_command_idle hi .identify).trans ?_,
    (exec_command_idle hi .configure).trans ?_⟩
  · simp only [commandBody, hsBegin, beginLong, loadProbe, logBus, Command.code]
  · simp only [commandBody, goto, beginLong, loadProbe, logBus, Command.code, zeroParams]
  · simp only [commandBody, goto, beginLong, loadProbe, logBus, Command.code]

/-- Settles O28: the two ends of a handshake, by the command that runs. -/
theorem handshakeFinish : Obligations.HandshakeFinish := by
  unfold Obligations.HandshakeFinish
  refine fun s => ⟨fun hop => ?_, fun hop res => hsFinish_sequencer res s ?_⟩
  · exact ⟨hsFinish_handshake .ok s hop, hsFinish_handshake .timeout s hop, hsFinish_handshake .protocol s hop⟩
  · rcases hop with hop | hop <;> rw [hop] <;> nofun

/-- Settles O29: the rules of the three microstates. -/
theorem outerLoopSteps : Obligations.OuterLoopSteps := by
  unfold Obligations.OuterLoopSteps
  intro s ans
  refine ⟨fun he => ?_, fun he hc => ?_, fun he hc hr => ?_, fun he hc hr => ?_⟩
  · rw [act_engineAt he, engineStep_outerCheck]
    simp only [engineAt, ← he]
  · rw [act_engineAt he, engineStep_outerSleep s hc]
    rfl
  · rw [act_engineAt he, engineStep_outerPoll s hc, hr]
    rfl
  · rw [act_engineAt he, engineStep_outerPoll s hc, hr]
    rfl

/-- Settles O30: the transfer of HS_OUTER_XFER, successful (`received`) or failed (`lost`, with the draws in RX). -/
theorem outerTransferStep : Obligations.OuterTransferStep := by
  unfold Obligations.OuterTransferStep
  intro s ans he hc
  refine ⟨fun hok => ?_, fun hok => ⟨drawFrame s.cfg s.draws, ?_⟩⟩
  · exact (act_engineAt he ans).trans (congrArg _ (outerXfer_ok (s := engineAt .hsOuterXfer ans s) hc hok))
  · have hnack : listeningAck (exchanged (engineAt .hsOuterXfer ans s)) = false := by
      simp [listeningAck, exchanged, engineAt, hok]
    rw [act_engineAt he, engineStep_outerXfer s hc, hnack, exchanged_fail hok]
    rfl

/-- Settles O31: the rules of the four microstates. -/
theorem innerLoopSteps : Obligations.InnerLoopSteps := by
  unfold Obligations.InnerLoopSteps
  intro s ans
  refine ⟨fun he => ?_, fun he hc => ?_, fun he hc => ?_, fun he hc => ?_⟩
  · rw [act_engineAt he, engineStep_innerCheck]
    simp only [engineAt, ← he]
  · rw [act_engineAt he, engineStep_innerSettle s hc]
    rfl
  · rw [act_engineAt he, engineStep_innerSleep s hc]
    rfl
  · rw [act_engineAt he, engineStep_innerPoll s hc]
    rfl

/-- Settles O32: the transfer of HS_INNER_XFER, successful (`received`) or failed (`lost`, with the draws in RX). -/
theorem innerTransferStep : Obligations.InnerTransferStep := by
  unfold Obligations.InnerTransferStep
  intro s ans he hc
  have hport (r : HsResult) : hsFinish r (received ans (engineAt .hsInnerXfer ans s)) = hsFinish r (received ans s) :=
    hsFinish_engineAt r .hsInnerXfer ans (received ans s)
  refine ⟨fun hok => ?_, fun hok => ⟨drawFrame s.cfg s.draws, ?_⟩⟩
  · rw [act_engineAt he, ← hport]
    exact congrArg _ (innerXfer_ok (s := engineAt .hsInnerXfer ans s) hc hok)
  · have hno : echoed (exchanged (engineAt .hsInnerXfer ans s)) = false := by
      simp [echoed, exchanged, engineAt, hok]
    rw [act_engineAt he, engineStep_innerXfer s hc, hno, exchanged_fail hok]
    rfl

/-- Settles O33: the rules of the three microstates. -/
theorem sequencerSteps : Obligations.SequencerSteps := by
  unfold Obligations.SequencerSteps
  intro s ans
  refine ⟨fun he => ?_, fun he hc => ?_, fun he hc => ?_⟩
  · rw [act_engineAt he, engineStep_sqStart]
    rfl
  · rw [act_engineAt he, engineStep_sqReset s hc]
    rfl
  · rw [act_engineAt he, engineStep_sqBackoff s hc]
    rfl

end Sys2Proof.Machine
end

section
/-! SUPPORT. The rules over the whole machine about the handshake: IDLE is left only by the long commands (43_handshake.md R181),
no rule reads OPC_NONE (R193), and the inner loop is not left for the outer one (R194). -/

namespace Sys2Proof.Machine

open Sys2Proof

/-! ### IDLE -/

@[simp] theorem storeReg_estate (r : Reg) (v : Word) (s : State) : (storeReg r v s).estate = s.estate := by
  cases r <;> rfl

/-- The commands that start the engine are HANDSHAKE, IDENTIFY and CONFIGURE (R180, R210, R216). -/
theorem code_of_commandBody_estate {c : Command} {s : State} (h : (commandBody c s).estate ≠ s.estate) :
    c.code ∈ [3#32, 4#32, 5#32] := by
  cases c with
  | handshake | identify | configure => decide
  | nop | encode | verify | packPset | unpackPset | clearStatus => exact absurd (by simp [commandBody]) h

/-- A host access changes ESTATE only by a long command. -/
theorem hostEffect_estate {s t : State} {i : Instr} (h : HostEffect s i t) (hst : t.estate ≠ s.estate) :
    ∃ v, i = .wrCtrl v ∧ v ∈ [3#32, 4#32, 5#32] := by
  cases h with
  | read i r => exact absurd (accessReg_induction (P := fun u => u.estate = s.estate) (fun _ => rfl) rfl) hst
  | gated i r v =>
    refine absurd (accessReg_induction (P := fun u => u.estate = s.estate) (fun _ => ?_) rfl) hst
    split <;> simp
  | readOnly i r v => exact absurd (accessReg_induction (P := fun u => u.estate = s.estate) (fun _ => rfl) rfl) hst
  | units i e acc pk => exact absurd rfl hst
  | reserved hc => exact absurd rfl hst
  | command hc =>
    rename_i data c
    by_cases hi : s.estate = .idle
    · rw [issueCommand_idle c _ s hi] at hst
      exact ⟨data, rfl, code_of_decodeCommand hc ▸ code_of_commandBody_estate hst⟩
    · rw [issueCommand_busy c _ s hi] at hst
      exact absurd rfl hst

/-- In IDLE the engine has no step (R181; log 22). -/
theorem engineStep_idle {s : State} (hi : s.estate = .idle) : engineStep s = s := by
  unfold engineStep
  rw [hi]

/-- Settles O47: of the effects of a step only a long command leaves IDLE. -/
theorem idleIsLeftOnlyByLongCommands : Obligations.IdleIsLeftOnlyByLongCommands := by
  unfold Obligations.IdleIsLeftOnlyByLongCommands
  refine ⟨fun s t hstep hi ht => ?_, fun s ans hi => ?_⟩
  · have hst : t.estate ≠ s.estate := by rwa [hi]
    cases stepEffect_of_next hstep with
    | nothing hin => exact absurd rfl hst
    | access hin hd he =>
      obtain ⟨v, rfl, hv⟩ := hostEffect_estate he hst
      rw [access_of_decodeBus_wrCtrl hd] at hin
      exact ⟨v, _, hin, hv⟩
    | busError hin hd => exact absurd rfl hst
    | engine hin =>
      rename_i ans rest
      have hidle : engineStep { s with inputs := rest, port := ans } = _ := engineStep_idle hi
      exact absurd (congrArg State.estate hidle) hst
    | blockReset hin => exact absurd rfl ht
  · have hidle : engineStep { s with port := ans } = _ := engineStep_idle hi
    rw [engineStepsFollowTheMicrostate s ans, hidle]

/-! ### OPC_NONE -/

/-- The rule `f` does not read OPC_NONE (R193). -/
def OpcNoneBlind (f : State → State) : Prop := ∀ w s, f (withOpcNone w s) = withOpcNone w (f s)

section

variable {f g k : State → State}

/-- A rule with two branches, when its condition does not read OPC_NONE either. -/
theorem OpcNoneBlind.ite {c : State → Prop} [DecidablePred c] (hc : ∀ w s, c (withOpcNone w s) ↔ c s)
    (hf : OpcNoneBlind f) (hg : OpcNoneBlind g) : OpcNoneBlind fun s => if c s then f s else g s := by
  intro w s
  simp only [hc, hf w s, hg w s, apply_ite (withOpcNone w)]

theorem OpcNoneBlind.comp (hf : OpcNoneBlind f) (hg : OpcNoneBlind g) : OpcNoneBlind (f ∘ g) := fun w s =>
  (congrArg f (hg w s)).trans (hf w (g s))

theorem hsFinish_blind (r : HsResult) : OpcNoneBlind (hsFinish r) := by
  intro w s
  have heop : (withOpcNone w s).eop = s.eop := rfl
  unfold hsFinish
  rw [heop]
  cases s.eop <;> rfl

/-- A transaction looks at the port only. -/
theorem transact_blind (e : PortEvent) (hk : OpcNoneBlind k) : OpcNoneBlind (transact e k) :=
  .ite (fun _ _ => .rfl) (hk.comp (g := emit e) fun _ _ => rfl) fun _ _ => rfl

theorem readyThen_blind {k : Bool → State → State} (hk : ∀ b, OpcNoneBlind (k b)) : OpcNoneBlind (readyThen k) :=
  fun w s => transact_blind (.ready s.port.ready) (hk s.port.ready) w s

theorem receive_blind : OpcNoneBlind receive := .ite (fun _ _ => .rfl) (fun _ _ => rfl) fun _ _ => rfl

/-- A transfer, and the check that follows it, read the listening opcodes only (R165, R166, R119). -/
theorem exchangeThen_blind (hk : OpcNoneBlind k) : OpcNoneBlind (exchangeThen k) := by
  intro w s
  refine transact_blind (.exchange s.tx (if s.port.ok then some (replyFrame s) else none)) (fun w t => ?_) w s
  rw [receive_blind, ← hk]
  congr 1
  unfold rxCheck
  rw [apply_ite (withOpcNone w)]
  rfl

theorem outerCheck_blind : OpcNoneBlind outerCheck := .ite (fun _ _ => .rfl) (hsFinish_blind _) fun _ _ => rfl

theorem outerSleep_blind : OpcNoneBlind outerSleep := by
  unfold outerSleep sleepThen
  exact transact_blind _ fun _ _ => rfl

theorem outerPoll_blind : OpcNoneBlind outerPoll := readyThen_blind fun b => by cases b <;> exact fun _ _ => rfl

theorem outerXfer_blind : OpcNoneBlind outerXfer :=
  exchangeThen_blind (.ite (fun _ _ => .rfl) (fun _ _ => rfl) fun _ _ => rfl)

theorem innerCheck_blind : OpcNoneBlind innerCheck := .ite (fun _ _ => .rfl) (hsFinish_blind _) fun _ _ => rfl

theorem innerSettle_blind (op : Word) : OpcNoneBlind (innerSettle op) :=
  have hsettle (ms : Word) : OpcNoneBlind (sleepThen ms (goto .hsInnerSleep)) := transact_blind _ fun _ _ => rfl
  .ite (fun _ _ => .rfl) (hsettle _) (.ite (fun _ _ => .rfl) (hsettle _) fun _ _ => rfl)

theorem innerSleep_blind : OpcNoneBlind innerSleep := transact_blind _ fun _ _ => rfl

theorem innerPoll_blind : OpcNoneBlind innerPoll := readyThen_blind fun b => by cases b <;> exact fun _ _ => rfl

theorem innerXfer_blind : OpcNoneBlind innerXfer :=
  exchangeThen_blind (.ite (fun _ _ => .rfl) (hsFinish_blind _) fun _ _ => rfl)

theorem sqStart_blind : OpcNoneBlind sqStart := .ite (fun _ _ => .rfl) (fun _ _ => rfl) fun _ _ => rfl

theorem evalIdentify_blind : OpcNoneBlind evalIdentify :=
  .ite (fun _ _ => .rfl) (.ite (fun _ _ => .rfl) (fun _ _ => rfl) fun _ _ => rfl)
    (.ite (fun _ _ => .rfl) (fun _ _ => rfl) fun _ _ => rfl)

theorem evalConfigure_blind : OpcNoneBlind evalConfigure :=
  .ite (fun _ _ => .rfl) (fun _ _ => rfl) (.ite (fun _ _ => .rfl) (fun _ _ => rfl) fun _ _ => rfl)

theorem sqEval_blind : OpcNoneBlind sqEval := by
  intro w s
  have heop : (withOpcNone w s).eop = s.eop := rfl
  unfold sqEval
  rw [heop]
  cases s.eop with
  | identify => exact evalIdentify_blind w s
  | configure => exact evalConfigure_blind w s
  | handshake | none => rfl

/-- No rule of the engine reads OPC_NONE (R193). -/
theorem engineStep_blind : OpcNoneBlind engineStep := by
  intro w s
  have hestate : (withOpcNone w s).estate = s.estate := rfl
  unfold engineStep
  rw [hestate]
  cases s.estate with
  | idle => rfl
  | hsOuterCheck => exact outerCheck_blind w s
  | hsOuterSleep => exact outerSleep_blind w s
  | hsOuterPoll => exact outerPoll_blind w s
  | hsOuterXfer => exact outerXfer_blind w s
  | hsInnerCheck => exact innerCheck_blind w s
  | hsInnerSettle => exact innerSettle_blind _ w s
  | hsInnerSleep => exact innerSleep_blind w s
  | hsInnerPoll => exact innerPoll_blind w s
  | hsInnerXfer => exact innerXfer_blind w s
  | sqStart => exact sqStart_blind w s
  | sqReset => exact transact_blind _ (fun _ _ => rfl) w s
  | sqBackoff => exact transact_blind _ (fun _ _ => rfl) w s
  | sqEval => exact sqEval_blind w s

/-- An access reads `N_P` of the constants, and what its body reads (R21). -/
theorem accessReg_blind (r : Reg) (hf : OpcNoneBlind f) : OpcNoneBlind (accessReg r f) :=
  .ite (fun _ _ => by cases r <;> exact .rfl) hf fun _ _ => rfl

theorem hostRead_blind (r : Reg) : OpcNoneBlind (hostRead r) :=
  accessReg_blind r fun w s => by
    have hvalue : regValue (withOpcNone w s) r = regValue s r := by cases r <;> rfl
    rw [hvalue]
    rfl

theorem gatedWrite_blind (r : Reg) (v : Word) : OpcNoneBlind (gatedWrite r v) := by
  have hstore : OpcNoneBlind (storeReg r v) := fun _ _ => by cases r <;> rfl
  have hgate : OpcNoneBlind fun s => if s.busy then dropWrite s else storeReg r v s :=
    .ite (fun _ _ => .rfl) (fun _ _ => rfl) hstore
  exact accessReg_blind r (.comp (f := logBus (.written r.offset v)) (fun _ _ => rfl) hgate)

theorem readOnlyWrite_blind (r : Reg) (v : Word) : OpcNoneBlind (readOnlyWrite r v) :=
  accessReg_blind r fun _ _ => rfl


theorem commandBody_blind (c : Command) : OpcNoneBlind (commandBody c) := by
  intro w s
  cases c <;> rfl

theorem issueCommand_blind (c : Command) : OpcNoneBlind (issueCommand c (commandBody c)) :=
  .comp (f := logBus _) (fun _ _ => rfl) (.ite (fun _ _ => .rfl) (fun _ _ => rfl) (commandBody_blind c))

end

/-- Every row of a host access is a rule that does not read OPC_NONE. -/
theorem exec_access_blind {cfg : Config} {v : BitVec 42} (i : Instr) (h : encode cfg i = .access v) :
    ∃ f : State → State, (∀ s, exec i s = .next (f s)) ∧ OpcNoneBlind f := by
  cases i with
  | rdCtrl | rdStatus | rdCrcCtrl | crcRead | pkRead | pkHiRead | pkLoRead | rdVersion | rdOuterBudget
  | rdInnerBudget | rdReadyCost | rdMinFw | rdOuterRemain | rdInnerCount | rdAttempt | rdOpcode | rdParam1
  | rdParam2 | rdParam3 | rdParam4 | rdParam5 | rdParam6 | rdParam7 | rdParam8 | rdParam9 | rdParam10 | rdParam11
  | rdTx0 | rdTx1 | rdTx2 | rdTx3 | rdTx4 | rdTx5 | rdTx6 | rdTx7 | rdTx8 | rdTx9 | rdTx10 | rdTx11 | rdTx12
  | rdRx0 | rdRx1 | rdRx2 | rdRx3 | rdRx4 | rdRx5 | rdRx6 | rdRx7 | rdRx8 | rdRx9 | rdRx10 | rdRx11 | rdRx12
  | rdPset0 | rdPset1 | rdPset2 | rdPset3 | rdPset4 | rdPset5 | rdPset6 | rdPset7 | rdPset8 | rdPset9 =>
    exact ⟨_, fun _ => rfl, hostRead_blind _⟩
  | wrOuterBudget data | wrInnerBudget data | wrReadyCost data | wrMinFw data | wrOpcode data | wrParam1 data
  | wrParam2 data | wrParam3 data | wrParam4 data | wrParam5 data | wrParam6 data | wrParam7 data | wrParam8 data
  | wrParam9 data | wrParam10 data | wrParam11 data | wrRx0 data | wrRx1 data | wrRx2 data | wrRx3 data
  | wrRx4 data | wrRx5 data | wrRx6 data | wrRx7 data | wrRx8 data | wrRx9 data | wrRx10 data | wrRx11 data
  | wrRx12 data | wrPset0 data | wrPset1 data | wrPset2 data | wrPset3 data | wrPset4 data | wrPset5 data
  | wrPset6 data | wrPset7 data | wrPset8 data | wrPset9 data => exact ⟨_, fun _ => rfl, gatedWrite_blind _ _⟩
  | wrStatus data | wrVersion data | wrOuterRemain data | wrInnerCount data | wrAttempt data | wrTx0 data
  | wrTx1 data | wrTx2 data | wrTx3 data | wrTx4 data | wrTx5 data | wrTx6 data | wrTx7 data | wrTx8 data
  | wrTx9 data | wrTx10 data | wrTx11 data | wrTx12 data => exact ⟨_, fun _ => rfl, readOnlyWrite_blind _ _⟩
  | crcReset data => exact ⟨_, exec_crcReset data, fun _ _ => rfl⟩
  | crcFeed data | pkWrite data | pkHiWrite data | pkLoWrite data => exact ⟨_, fun _ => rfl, fun _ _ => rfl⟩
  | wrCtrl data =>
    cases hc : decodeCommand data with
    | some c => exact ⟨_, exec_wrCtrl_command hc, issueCommand_blind c⟩
    | none => exact ⟨_, exec_wrCtrl_reserved hc, fun _ _ => rfl⟩
  | nop | encode | verify | handshake | identify | configure | packPset | unpackPset | clearStatus | opcNone
  | opcReportInfo | opcSetup | opcListening | opcBlListening | opcBlEraseAll | opcBlWriteFirmware => nomatch h

/-- The row of an access is found with `N_P` only (R21, R94). -/
theorem decodeBus_withOpcNone (w : Word) (s : State) (a : Access) :
    decodeBus (withOpcNone w s).cfg a = decodeBus s.cfg a := rfl

/-- Settles O51: the rule of each agent's step does not read OPC_NONE. -/
theorem opcNoneIsReadByNoRule : Obligations.OpcNoneIsReadByNoRule := by
  unfold Obligations.OpcNoneIsReadByNoRule
  intro s t i w hact
  cases i with
  | host a =>
    have hdecode := decodeBus_withOpcNone w s a
    cases hd : decodeBus s.cfg a with
    | instr i =>
      obtain ⟨v, hv⟩ := decodeAccess_access (decodeBus_instr hd)
      obtain ⟨f, hf, hblind⟩ := exec_access_blind i hv
      rw [act_host_instr a i s hd, hf] at hact
      cases hact
      rw [act_host_instr a i _ (hdecode.trans hd), hf, hblind]
    | busError c =>
      rw [act_host_busError a c s hd] at hact
      cases hact
      exact act_host_busError a c _ (hdecode.trans hd)
    | outside =>
      rw [act_host_outside a s hd] at hact
      contradiction
  | engine ans =>
    rw [engineStepsFollowTheMicrostate s ans] at hact
    cases hact
    exact (engineStepsFollowTheMicrostate _ ans).trans (congrArg _ (engineStep_blind w { s with port := ans }))
  | blockReset =>
    rw [act_blockReset] at hact
    cases hact
    rfl

/-! ### The inner loop -/

/-- What a step of the inner loop keeps, and where it can lead (R194). -/
def StaysInner (s t : State) : Prop :=
  t.outerRemain = s.outerRemain ∧
    (t.estate.inInnerLoop = true ∨
      (s.eop = .handshake ∧ t.estate = .idle ∧ (t.result = .ok ∨ t.result = .protocol)) ∨
      (s.eop ≠ .handshake ∧ t.estate = .sqEval ∧ (t.hsRes = .ok ∨ t.hsRes = .protocol)))

section

variable {s t : State}

/-- The two ends of the inner loop (R188, R192, R195). -/
theorem hsFinish_staysInner {r : HsResult} (hr : r = .ok ∨ r = .protocol) (hop : t.eop = s.eop)
    (hremain : t.outerRemain = s.outerRemain) : StaysInner s (hsFinish r t) := by
  refine ⟨by rw [hsFinish_outerRemain, hremain], .inr ?_⟩
  by_cases hhs : t.eop = .handshake
  · rw [hsFinish_handshake r t hhs]
    refine .inl ⟨hop ▸ hhs, rfl, ?_⟩
    rcases hr with rfl | rfl
    · exact .inl rfl
    · exact .inr rfl
  · rw [hsFinish_sequencer r t hhs]
    exact .inr ⟨hop ▸ hhs, rfl, hr⟩

theorem innerCheck_staysInner (s : State) : StaysInner s (innerCheck s) := by
  unfold innerCheck
  split
  · exact hsFinish_staysInner (.inr rfl) rfl rfl
  · exact ⟨rfl, .inl rfl⟩

theorem innerSettle_staysInner (he : s.estate = .hsInnerSettle) (op : Word) : StaysInner s (innerSettle op s) := by
  have hsettle (ms : Word) : StaysInner s (sleepThen ms (goto .hsInnerSleep) s) :=
    transact_induction ⟨rfl, .inl (by rw [he]; rfl)⟩ ⟨rfl, .inl rfl⟩
  unfold innerSettle
  split
  · exact hsettle _
  split
  · exact hsettle _
  · exact ⟨rfl, .inl rfl⟩

theorem innerPoll_staysInner (he : s.estate = .hsInnerPoll) : StaysInner s (innerPoll s) := by
  refine readyThen_induction ⟨rfl, .inl (by rw [he]; rfl)⟩ fun b => ?_
  cases b <;> exact ⟨rfl, .inl rfl⟩

theorem innerXfer_staysInner (he : s.estate = .hsInnerXfer) : StaysInner s (innerXfer s) := by
  refine exchangeThen_induction ⟨rfl, .inl (by rw [he]; rfl)⟩ ?_
  split
  · exact hsFinish_staysInner (.inl rfl) (by simp [exchanged]) (by simp [exchanged])
  · exact ⟨by simp [exchanged], .inl rfl⟩

theorem engineStep_staysInner (h : s.estate.inInnerLoop = true) : StaysInner s (engineStep s) := by
  unfold engineStep
  cases he : s.estate with
  | hsInnerCheck => exact innerCheck_staysInner s
  | hsInnerSettle => exact innerSettle_staysInner he _
  | hsInnerSleep => exact transact_induction ⟨rfl, .inl h⟩ ⟨rfl, .inl rfl⟩
  | hsInnerPoll => exact innerPoll_staysInner he
  | hsInnerXfer => exact innerXfer_staysInner he
  | idle | hsOuterCheck | hsOuterSleep | hsOuterPoll | hsOuterXfer | sqStart | sqReset | sqBackoff | sqEval =>
    simp [he, EState.inInnerLoop] at h

end

/-- Settles O54: by the rules of the five microstates. -/
theorem innerLoopNeverReturnsToOuter : Obligations.InnerLoopNeverReturnsToOuter := by
  unfold Obligations.InnerLoopNeverReturnsToOuter
  intro s ans h
  exact ⟨_, engineStepsFollowTheMicrostate s ans, engineStep_staysInner (s := { s with port := ans }) h⟩

end Sys2Proof.Machine
end

section
/-! SUPPORT. Handshakes against an environment that completes its transactions: the rounds of the two loops as runs of the engine,
the function handshake() of 43_handshake.md R201 by its rounds, the refinement between them, and the bounds of R196. -/

namespace Sys2Proof.Machine

open Sys2Proof

/-! ### Runs of the engine -/

/-- A run and a run from where it ends. -/
theorem engineRun_trans {oracle : Oracle} {m n : Nat} {s t u : State} (h : engineRun oracle m s = .next t)
    (h' : engineRun oracle n t = .next u) : engineRun oracle (m + n) s = .next u := by
  induction m generalizing s with
  | zero =>
    cases h
    rwa [Nat.zero_add]
  | succ m ih =>
    rw [engineRun_succ] at h
    rw [Nat.succ_add, engineRun_succ, ih h]

/-- A run begins with the rule of the present microstate, at the answer to the transaction that is next (R160). -/
theorem engineRun_engineAt (oracle : Oracle) (n : Nat) (e : EState) (p : EnvAnswer) (s : State) :
    engineRun oracle (n + 1) (engineAt e p s) =
      engineRun oracle n (engineStep (engineAt e (oracle s.trace.length) s)) := engineRun_succ oracle n _

/-! ### The rounds of the outer loop -/

/-- The block after the Sleep of an outer round (R183). -/
def outerSlept (s : State) : State := { emit (.sleep 1#32) s with outerRemain := s.outerRemain - 1#32 }

/-- The block after the poll of an outer round (R184). -/
def outerPolled (oracle : Oracle) (s : State) : State := (hsReady oracle (outerSlept s)).2

/-- The block after a ready poll of an outer round, READY_COST paid (R185). -/
def outerPaid (oracle : Oracle) (s : State) : State :=
  { outerPolled oracle s with outerRemain := satSub (outerSlept s).outerRemain s.readyCost }

/-- The block as the inner loop begins (R186). -/
def innerBegun (s : State) : State := { s with innerCount := 0#32 }

/-- The device is ready at the poll of an outer round. -/
def outerReady (oracle : Oracle) (s : State) : Bool := (hsReady oracle (outerSlept s)).1

/-- The transfer `x` brought a listening acknowledgement (R186). -/
def acknowledges (x : Bool × State) : Bool :=
  x.1 && verifyFrame x.2.cfg x.2.rx && (x.2.rx[0] == x.2.cfg.opcListening || x.2.rx[0] == x.2.cfg.opcBlListening)

section

variable {oracle : Oracle} {n : Nat} {s : State}

@[simp] theorem outerPolled_cfg (oracle : Oracle) (s : State) : (outerPolled oracle s).cfg = s.cfg := rfl
@[simp] theorem outerPolled_eop (oracle : Oracle) (s : State) : (outerPolled oracle s).eop = s.eop := rfl
@[simp] theorem outerPolled_tx (oracle : Oracle) (s : State) : (outerPolled oracle s).tx = s.tx := rfl
@[simp] theorem outerPolled_innerBudget (oracle : Oracle) (s : State) :
    (outerPolled oracle s).innerBudget = s.innerBudget := rfl
@[simp] theorem outerPolled_outerRemain (oracle : Oracle) (s : State) :
    (outerPolled oracle s).outerRemain = s.outerRemain - 1#32 := rfl

/-- A poll is the second transaction of its round (R183, R184). -/
@[simp] theorem outerPolled_trace (oracle : Oracle) (s : State) :
    (outerPolled oracle s).trace = s.trace ++ [.sleep 1#32, .ready (outerReady oracle s)] := by
  simp [outerPolled, outerReady, outerSlept, hsReady]

@[simp] theorem outerPaid_cfg (oracle : Oracle) (s : State) : (outerPaid oracle s).cfg = s.cfg := outerPolled_cfg oracle s
@[simp] theorem outerPaid_eop (oracle : Oracle) (s : State) : (outerPaid oracle s).eop = s.eop := outerPolled_eop oracle s
@[simp] theorem outerPaid_tx (oracle : Oracle) (s : State) : (outerPaid oracle s).tx = s.tx := outerPolled_tx oracle s
@[simp] theorem outerPaid_innerBudget (oracle : Oracle) (s : State) :
    (outerPaid oracle s).innerBudget = s.innerBudget := outerPolled_innerBudget oracle s
@[simp] theorem outerPaid_outerRemain (oracle : Oracle) (s : State) :
    (outerPaid oracle s).outerRemain = satSub (s.outerRemain - 1#32) s.readyCost := rfl
@[simp] theorem outerPaid_trace (oracle : Oracle) (s : State) :
    (outerPaid oracle s).trace = s.trace ++ [.sleep 1#32, .ready (outerReady oracle s)] := outerPolled_trace oracle s

theorem hsOuterLoop_spent (h : s.outerRemain = 0#32) : hsOuterLoop oracle n s = (false, s) := by
  cases n with
  | zero => rfl
  | succ n => exact if_pos h

/-- One round of the outer loop of R201. -/
theorem hsOuterLoop_round (h : s.outerRemain ≠ 0#32) : hsOuterLoop oracle (n + 1) s =
    if outerReady oracle s then
      if acknowledges (hsXfer oracle (outerPaid oracle s)) then (true, (hsXfer oracle (outerPaid oracle s)).2)
      else hsOuterLoop oracle n (hsXfer oracle (outerPaid oracle s)).2
    else hsOuterLoop oracle n (outerPolled oracle s) := if_neg h

/-- The transfer of the microstates is that of R201 (R165, R166, R119). -/
theorem exchanged_engineAt (oracle : Oracle) (e : EState) (s : State) :
    exchanged (engineAt e (oracle s.trace.length) s) = engineAt e (oracle s.trace.length) (hsXfer oracle s).2 := by
  cases hok : (oracle s.trace.length).ok with
  | false => simp [exchanged, hsXfer, engineAt, emit, receive_fail, rxCheck_fail, hok]
  | true => simp [exchanged, hsXfer, engineAt, emit, receive_ok, rxCheck_ok, replyFrame, hok]

/-- The steps HS_OUTER_CHECK, HS_OUTER_SLEEP and HS_OUTER_POLL of a round (R182 to R185). -/
theorem engineRun_outerRound (hc : oracle.Completes) (h : s.outerRemain ≠ 0#32) (p : EnvAnswer) :
    ∃ p', engineRun oracle 3 (engineAt .hsOuterCheck p s) = .next
      (if outerReady oracle s then engineAt .hsOuterXfer p' (outerPaid oracle s)
        else engineAt .hsOuterCheck p' (outerPolled oracle s)) := by
  refine ⟨oracle (outerSlept s).trace.length, ?_⟩
  rw [engineRun_engineAt, engineStep_outerCheck, if_neg h, engineRun_engineAt, engineStep_outerSleep _ (hc _),
    engineRun_engineAt, engineStep_outerPoll _ (hc _)]
  rfl

/-- The step HS_OUTER_XFER of a round (R186, R187). -/
theorem engineRun_outerXfer (hc : oracle.Completes) (p : EnvAnswer) (s : State) :
    ∃ p', engineRun oracle 1 (engineAt .hsOuterXfer p s) = .next
      (if acknowledges (hsXfer oracle s) then engineAt .hsInnerCheck p' (innerBegun (hsXfer oracle s).2)
        else engineAt .hsOuterCheck p' (hsXfer oracle s).2) := by
  refine ⟨oracle s.trace.length, ?_⟩
  rw [engineRun_engineAt, engineStep_outerXfer _ (hc _), exchanged_engineAt]
  rfl

/-- The step HS_OUTER_CHECK with no budget left (R182). -/
theorem engineRun_outerSpent (h : s.outerRemain = 0#32) (p : EnvAnswer) :
    ∃ p', engineRun oracle 1 (engineAt .hsOuterCheck p s) = .next (hsFinish .timeout (withPort p' s)) := by
  refine ⟨oracle s.trace.length, ?_⟩
  rw [engineRun_engineAt, engineStep_outerCheck, if_pos h, hsFinish_engineAt]
  rfl

/-- Where the engine stands at the end of the outer loop: in the inner loop after an acknowledgement (R186), else at the end of
the handshake (R182). -/
def afterOuterLoop (p : EnvAnswer) : Bool × State → State
  | (true, t) => engineAt .hsInnerCheck p (innerBegun t)
  | (false, t) => hsFinish .timeout (withPort p t)

theorem outerPolled_outerRemain_lt (oracle : Oracle) (h : s.outerRemain ≠ 0#32) :
    (outerPolled oracle s).outerRemain.toNat < s.outerRemain.toNat := by
  rw [outerPolled_outerRemain]
  bv_omega

@[simp] theorem hsXfer_outerRemain (oracle : Oracle) (s : State) :
    (hsXfer oracle s).2.outerRemain = s.outerRemain := by
  cases hok : (oracle s.trace.length).ok <;> simp [hsXfer, hok]

theorem outerPaid_outerRemain_lt (oracle : Oracle) (h : s.outerRemain ≠ 0#32) :
    (outerPaid oracle s).outerRemain.toNat < s.outerRemain.toNat :=
  (satSub_toNat_le _ _).trans_lt (outerPolled_outerRemain_lt oracle h)

/-- The outer loop of the microstates is that of R201, in at most four steps for each unit of budget, and one. -/
theorem engineRun_outerLoop (hc : oracle.Completes) (n : Nat) {s : State} (hn : s.outerRemain.toNat ≤ n) (p : EnvAnswer) :
    ∃ k p', k ≤ 4 * s.outerRemain.toNat + 1 ∧
      engineRun oracle k (engineAt .hsOuterCheck p s) = .next (afterOuterLoop p' (hsOuterLoop oracle n s)) := by
  induction n generalizing s p with
  | zero =>
    have h : s.outerRemain = 0#32 := by bv_omega
    obtain ⟨p', hrun⟩ := engineRun_outerSpent (oracle := oracle) h p
    exact ⟨1, p', Nat.le_add_left _ _, hrun⟩
  | succ n ih =>
    by_cases h : s.outerRemain = 0#32
    · obtain ⟨p', hrun⟩ := engineRun_outerSpent (oracle := oracle) h p
      exact ⟨1, p', Nat.le_add_left _ _, by rw [hrun, hsOuterLoop_spent h]; rfl⟩
    obtain ⟨p₁, hround⟩ := engineRun_outerRound hc h p
    rw [hsOuterLoop_round h]
    by_cases hready : outerReady oracle s = true
    · rw [if_pos hready] at hround ⊢
      have hpaid := outerPaid_outerRemain_lt oracle h
      obtain ⟨p₂, hxfer⟩ := engineRun_outerXfer hc p₁ (outerPaid oracle s)
      by_cases hack : acknowledges (hsXfer oracle (outerPaid oracle s)) = true
      · rw [if_pos hack] at hxfer ⊢
        exact ⟨4, p₂, by omega, engineRun_trans hround hxfer⟩
      · rw [if_neg hack] at hxfer ⊢
        obtain ⟨k, p', hk, hrest⟩ := ih (s := (hsXfer oracle (outerPaid oracle s)).2) (by rw [hsXfer_outerRemain]; omega) p₂
        rw [hsXfer_outerRemain] at hk
        exact ⟨3 + 1 + k, p', by omega, engineRun_trans (engineRun_trans hround hxfer) hrest⟩
    · rw [if_neg hready] at hround ⊢
      have hpolled := outerPolled_outerRemain_lt oracle h
      obtain ⟨k, p', hk, hrest⟩ := ih (s := outerPolled oracle s) (by omega) p₁
      exact ⟨3 + k, p', by omega, engineRun_trans hround hrest⟩

end

/-! ### The rounds of the inner loop -/

/-- The block after the count of an inner attempt, its settle and its Sleep (R188 to R190). -/
def innerSlept (s : State) : State :=
  emit (.sleep 1#32)
    { s with innerCount := s.innerCount + 1#32, trace := s.trace ++ settleEvents s.cfg s.tx[0] }

/-- The block after the poll of an inner attempt (R191). -/
def innerPolled (oracle : Oracle) (s : State) : State := (hsReady oracle (innerSlept s)).2

/-- The device is ready at the poll of an inner attempt. -/
def innerReady (oracle : Oracle) (s : State) : Bool := (hsReady oracle (innerSlept s)).1

/-- The transfer `x` brought an echo of the probe (R192). -/
def echoes (x : Bool × State) : Bool := x.1 && verifyFrame x.2.cfg x.2.rx && x.2.rx[0] == x.2.tx[0]

section

variable {oracle : Oracle} {s : State}

@[simp] theorem innerPolled_cfg (oracle : Oracle) (s : State) : (innerPolled oracle s).cfg = s.cfg := rfl
@[simp] theorem innerPolled_eop (oracle : Oracle) (s : State) : (innerPolled oracle s).eop = s.eop := rfl
@[simp] theorem innerPolled_tx (oracle : Oracle) (s : State) : (innerPolled oracle s).tx = s.tx := rfl
@[simp] theorem innerPolled_outerRemain (oracle : Oracle) (s : State) :
    (innerPolled oracle s).outerRemain = s.outerRemain := rfl
@[simp] theorem innerPolled_innerBudget (oracle : Oracle) (s : State) :
    (innerPolled oracle s).innerBudget = s.innerBudget := rfl
@[simp] theorem innerPolled_innerCount (oracle : Oracle) (s : State) :
    (innerPolled oracle s).innerCount = s.innerCount + 1#32 := rfl

/-- A poll comes after the settle and the Sleep of its attempt (R189 to R191). -/
@[simp] theorem innerPolled_trace (oracle : Oracle) (s : State) : (innerPolled oracle s).trace =
    s.trace ++ settleEvents s.cfg s.tx[0] ++ [.sleep 1#32, .ready (innerReady oracle s)] := by
  simp [innerPolled, innerReady, innerSlept, hsReady]

/-- One attempt of the inner loop of R201. -/
theorem hsInnerLoop_round (oracle : Oracle) (n : Nat) (s : State) : hsInnerLoop oracle (n + 1) s =
    if innerReady oracle s then
      if echoes (hsXfer oracle (innerPolled oracle s)) then (.ok, (hsXfer oracle (innerPolled oracle s)).2)
      else hsInnerLoop oracle n (hsXfer oracle (innerPolled oracle s)).2
    else hsInnerLoop oracle n (innerPolled oracle s) := rfl

/-- The steps HS_INNER_CHECK to HS_INNER_POLL of an attempt (R188 to R191). -/
theorem engineRun_innerRound (hc : oracle.Completes) (h : s.innerCount < s.innerBudget) (p : EnvAnswer) :
    ∃ p', engineRun oracle 4 (engineAt .hsInnerCheck p s) = .next
      (engineAt (if innerReady oracle s then .hsInnerXfer else .hsInnerCheck) p' (innerPolled oracle s)) := by
  refine ⟨oracle (innerSlept s).trace.length, ?_⟩
  rw [engineRun_engineAt, engineStep_innerCheck, if_neg (BitVec.not_le.2 h), engineRun_engineAt,
    engineStep_innerSettle _ (hc _), engineRun_engineAt, engineStep_innerSleep _ (hc _), engineRun_engineAt,
    engineStep_innerPoll _ (hc _)]
  rfl

/-- The step HS_INNER_XFER of an attempt (R192). -/
theorem engineRun_innerXfer (hc : oracle.Completes) (p : EnvAnswer) (s : State) :
    ∃ p', engineRun oracle 1 (engineAt .hsInnerXfer p s) = .next
      (if echoes (hsXfer oracle s) then hsFinish .ok (withPort p' (hsXfer oracle s).2)
        else engineAt .hsInnerCheck p' (hsXfer oracle s).2) := by
  refine ⟨oracle s.trace.length, ?_⟩
  rw [engineRun_engineAt, engineStep_innerXfer _ (hc _), exchanged_engineAt, hsFinish_engineAt]
  rfl

/-- The step HS_INNER_CHECK with no attempt left (R188). -/
theorem engineRun_innerSpent (h : s.innerBudget ≤ s.innerCount) (p : EnvAnswer) :
    ∃ p', engineRun oracle 1 (engineAt .hsInnerCheck p s) = .next (hsFinish .protocol (withPort p' s)) := by
  refine ⟨oracle s.trace.length, ?_⟩
  rw [engineRun_engineAt, engineStep_innerCheck, if_pos h, hsFinish_engineAt]
  rfl

@[simp] theorem hsXfer_innerCount (oracle : Oracle) (s : State) : (hsXfer oracle s).2.innerCount = s.innerCount := by
  cases hok : (oracle s.trace.length).ok <;> simp [hsXfer, hok]

@[simp] theorem hsXfer_innerBudget (oracle : Oracle) (s : State) : (hsXfer oracle s).2.innerBudget = s.innerBudget := by
  cases hok : (oracle s.trace.length).ok <;> simp [hsXfer, hok]

/-- `n` inner attempts are left of INNER_BUDGET (R188). -/
def InnerAttemptsLeft (n : Nat) (s : State) : Prop := s.innerCount.toNat + n = s.innerBudget.toNat

/-- A poll comes after the count of one attempt (R188). -/
theorem innerPolled_attemptsLeft {n : Nat} (oracle : Oracle) (h : InnerAttemptsLeft (n + 1) s) :
    InnerAttemptsLeft n (innerPolled oracle s) := by
  unfold InnerAttemptsLeft at h ⊢
  rw [innerPolled_innerCount, innerPolled_innerBudget]
  bv_omega

/-- The inner loop of the microstates is that of R201, in at most five steps for each attempt left, and one. -/
theorem engineRun_innerLoop (hc : oracle.Completes) (n : Nat) {s : State} (hn : InnerAttemptsLeft n s) (p : EnvAnswer) :
    ∃ k p', k ≤ 5 * n + 1 ∧ engineRun oracle k (engineAt .hsInnerCheck p s) = .next
      (hsFinish (hsInnerLoop oracle n s).1 (withPort p' (hsInnerLoop oracle n s).2)) := by
  induction n generalizing s p with
  | zero =>
    obtain ⟨p', hrun⟩ := engineRun_innerSpent (oracle := oracle) (s := s) (BitVec.le_def.2 hn.ge) p
    exact ⟨1, p', Nat.le_add_left _ _, hrun⟩
  | succ n ih =>
    have hleft : s.innerCount < s.innerBudget := by
      unfold InnerAttemptsLeft at hn
      bv_omega
    have hpolled := innerPolled_attemptsLeft oracle hn
    obtain ⟨p₁, hround⟩ := engineRun_innerRound hc hleft p
    rw [hsInnerLoop_round]
    by_cases hready : innerReady oracle s = true
    · rw [if_pos hready] at hround ⊢
      obtain ⟨p₂, hxfer⟩ := engineRun_innerXfer hc p₁ (innerPolled oracle s)
      by_cases hecho : echoes (hsXfer oracle (innerPolled oracle s)) = true
      · rw [if_pos hecho] at hxfer ⊢
        exact ⟨4 + 1, p₂, by omega, engineRun_trans hround hxfer⟩
      · rw [if_neg hecho] at hxfer ⊢
        have hxferred : InnerAttemptsLeft n (hsXfer oracle (innerPolled oracle s)).2 := by
          simpa [InnerAttemptsLeft] using hpolled
        obtain ⟨k, p', hk, hrest⟩ := ih hxferred p₂
        exact ⟨4 + 1 + k, p', by omega, engineRun_trans (engineRun_trans hround hxfer) hrest⟩
    · rw [if_neg hready] at hround ⊢
      obtain ⟨k, p', hk, hrest⟩ := ih hpolled p₁
      exact ⟨4 + k, p', by omega, engineRun_trans hround hrest⟩

end

/-! ### The whole handshake -/

@[simp] theorem hsXfer_eop (oracle : Oracle) (s : State) : (hsXfer oracle s).2.eop = s.eop := by
  cases hok : (oracle s.trace.length).ok <;> simp [hsXfer, hok]

/-- A transfer is one transaction (R165). -/
@[simp] theorem hsXfer_trace_length (oracle : Oracle) (s : State) :
    (hsXfer oracle s).2.trace.length = s.trace.length + 1 := by
  cases hok : (oracle s.trace.length).ok <;> simp [hsXfer, hok]

/-- An attempt settles by at most one transaction (R189). -/
theorem settleEvents_length_le (cfg : Config) (op : Word) : (settleEvents cfg op).length ≤ 1 := by
  unfold settleEvents
  split
  · exact le_rfl
  split
  · exact le_rfl
  · exact Nat.zero_le _

section

variable {oracle : Oracle} {s : State}

/-- What the outer loop keeps, and the transactions it can take: three for each unit of budget it uses (R196). -/
structure OuterLoopFrame (s t : State) : Prop where
  eop : t.eop = s.eop
  innerBudget : t.innerBudget = s.innerBudget
  transactions : t.trace.length + 3 * t.outerRemain.toNat ≤ s.trace.length + 3 * s.outerRemain.toNat

theorem OuterLoopFrame.trans {s t u : State} (h : OuterLoopFrame s t) (h' : OuterLoopFrame t u) : OuterLoopFrame s u where
  eop := h'.eop.trans h.eop
  innerBudget := h'.innerBudget.trans h.innerBudget
  transactions := h'.transactions.trans h.transactions

theorem outerPolled_frame (oracle : Oracle) (h : s.outerRemain ≠ 0#32) : OuterLoopFrame s (outerPolled oracle s) where
  eop := outerPolled_eop oracle s
  innerBudget := outerPolled_innerBudget oracle s
  transactions := by
    have hlt := outerPolled_outerRemain_lt oracle h
    have htrace : (outerPolled oracle s).trace.length = s.trace.length + 2 := by simp
    omega

theorem outerTransferred_frame (oracle : Oracle) (h : s.outerRemain ≠ 0#32) :
    OuterLoopFrame s (hsXfer oracle (outerPaid oracle s)).2 where
  eop := (hsXfer_eop oracle _).trans (outerPaid_eop oracle s)
  innerBudget := (hsXfer_innerBudget oracle _).trans (outerPaid_innerBudget oracle s)
  transactions := by
    have hlt := outerPaid_outerRemain_lt oracle h
    have htrace : (outerPaid oracle s).trace.length = s.trace.length + 2 := by simp
    rw [hsXfer_trace_length, hsXfer_outerRemain]
    omega

theorem hsOuterLoop_frame (oracle : Oracle) (n : Nat) (s : State) : OuterLoopFrame s (hsOuterLoop oracle n s).2 := by
  induction n generalizing s with
  | zero => exact ⟨rfl, rfl, le_rfl⟩
  | succ n ih =>
    by_cases h : s.outerRemain = 0#32
    · rw [hsOuterLoop_spent h]
      exact ⟨rfl, rfl, le_rfl⟩
    rw [hsOuterLoop_round h]
    split
    · split
      · exact outerTransferred_frame oracle h
      · exact (outerTransferred_frame oracle h).trans (ih _)
    · exact (outerPolled_frame oracle h).trans (ih _)

/-- The poll of an inner attempt is its third transaction at most (R189 to R191). -/
theorem innerPolled_trace_length_le (oracle : Oracle) (s : State) :
    (innerPolled oracle s).trace.length ≤ s.trace.length + 3 := by
  have hsettle := settleEvents_length_le s.cfg s.tx[0]
  simp only [innerPolled_trace, List.length_append, List.length_cons, List.length_nil]
  omega

/-- The inner loop keeps the command, and takes at most four transactions for each attempt (R196). -/
theorem hsInnerLoop_frame (oracle : Oracle) (n : Nat) (s : State) :
    (hsInnerLoop oracle n s).2.eop = s.eop ∧ (hsInnerLoop oracle n s).2.trace.length ≤ s.trace.length + 4 * n := by
  induction n generalizing s with
  | zero => exact ⟨rfl, le_rfl⟩
  | succ n ih =>
    have hpolled := innerPolled_trace_length_le oracle s
    have hxfer := hsXfer_trace_length oracle (innerPolled oracle s)
    rw [hsInnerLoop_round]
    split
    · split
      · exact ⟨by rw [hsXfer_eop, innerPolled_eop], by dsimp only; omega⟩
      · obtain ⟨heop, htrace⟩ := ih (hsXfer oracle (innerPolled oracle s)).2
        exact ⟨by rw [heop, hsXfer_eop, innerPolled_eop], by omega⟩
    · obtain ⟨heop, htrace⟩ := ih (innerPolled oracle s)
      exact ⟨by rw [heop, innerPolled_eop], by omega⟩

/-- A handshake has just begun (R197). -/
structure HandshakeBegun (s : State) : Prop where
  estate : s.estate = .hsOuterCheck
  outerRemain : s.outerRemain = s.outerBudget
  innerCount : s.innerCount = 0#32

theorem HandshakeBegun.handshakeFunction_eq (h : HandshakeBegun s) (oracle : Oracle) : handshakeFunction oracle s =
    if (hsOuterLoop oracle s.outerBudget.toNat s).1 then
      hsInnerLoop oracle s.innerBudget.toNat (innerBegun (hsOuterLoop oracle s.outerBudget.toNat s).2)
    else (.timeout, (hsOuterLoop oracle s.outerBudget.toNat s).2) := by
  have hself : ∀ a b, s.outerRemain = a → s.innerCount = b → { s with outerRemain := a, innerCount := b } = s := by
    rintro _ _ rfl rfl
    rfl
  have hbudget := (hsOuterLoop_frame oracle s.outerBudget.toNat s).innerBudget
  rw [← hbudget]
  unfold handshakeFunction
  rw [hself _ _ h.outerRemain h.innerCount]
  rfl

/-- The microstates of a handshake lead to where handshake() of R201 does, within the steps of R196. -/
theorem engineRun_handshake (hc : oracle.Completes) (h : HandshakeBegun s) :
    ∃ k p', k ≤ 4 * s.outerBudget.toNat + 5 * s.innerBudget.toNat + 2 ∧ engineRun oracle k s = .next
      (hsFinish (handshakeFunction oracle s).1 (withPort p' (handshakeFunction oracle s).2)) := by
  have hs : engineAt .hsOuterCheck s.port s = s := by rw [engineAt, ← h.estate]
  have hbudget := (hsOuterLoop_frame oracle s.outerBudget.toNat s).innerBudget
  obtain ⟨k, p₁, hk, houter⟩ := engineRun_outerLoop hc _ (congrArg BitVec.toNat h.outerRemain).le s.port
  rw [hs] at houter
  rw [h.outerRemain] at hk
  rw [h.handshakeFunction_eq]
  rcases hloop : hsOuterLoop oracle s.outerBudget.toNat s with ⟨acked, t⟩
  rw [hloop] at houter hbudget
  cases acked with
  | false => exact ⟨k, p₁, by omega, houter⟩
  | true =>
    have hleft : InnerAttemptsLeft s.innerBudget.toNat (innerBegun t) := by
      simp [InnerAttemptsLeft, innerBegun, show t.innerBudget = s.innerBudget from hbudget]
    obtain ⟨m, p', hm, hinner⟩ := engineRun_innerLoop hc _ hleft p₁
    exact ⟨k + m, p', by omega, engineRun_trans houter hinner⟩

/-- handshake() keeps the command, within the transactions of R196. -/
theorem handshakeFunction_frame (h : HandshakeBegun s) (oracle : Oracle) :
    (handshakeFunction oracle s).2.eop = s.eop ∧ (handshakeFunction oracle s).2.trace.length ≤
      s.trace.length + 3 * s.outerBudget.toNat + 4 * s.innerBudget.toNat := by
  obtain ⟨heop, -, htrace⟩ := hsOuterLoop_frame oracle s.outerBudget.toNat s
  obtain ⟨heop', htrace'⟩ := hsInnerLoop_frame oracle s.innerBudget.toNat
    (innerBegun (hsOuterLoop oracle s.outerBudget.toNat s).2)
  rw [h.outerRemain] at htrace
  rw [h.handshakeFunction_eq]
  split
  · exact ⟨heop'.trans heop, by dsimp only [innerBegun] at htrace' ⊢; omega⟩
  · exact ⟨heop, by dsimp only; omega⟩

end

/-- Settles O59: the outer loop and then the inner loop of the microstates are those of the function. -/
theorem handshakeIsOneFunction : Obligations.HandshakeIsOneFunction := by
  unfold Obligations.HandshakeIsOneFunction
  intro s oracle he hremain hcount hc
  obtain ⟨k, p', -, hrun⟩ := engineRun_handshake hc ⟨he, hremain, hcount⟩
  exact ⟨k, _, hrun, by rw [hsFinish_port]; rfl⟩

/-- The block after an accepted HANDSHAKE command (R180, R197). -/
def handshakeIssued (s : State) : State :=
  { s with
    tx := encodeFrame s.cfg s.opcode s.param, eop := .handshake, attempt := 0#32, result := .none,
    outerRemain := s.outerBudget, innerCount := 0#32, estate := .hsOuterCheck,
    busLog := s.busLog ++ [.written 0x000 3#32] }

theorem exec_handshake_idle {s : State} (hi : s.estate = .idle) : exec .handshake s = .next (handshakeIssued s) :=
  (longCommandsStart s hi).1

theorem handshakeIssued_begun (s : State) : HandshakeBegun (handshakeIssued s) := ⟨rfl, rfl, rfl⟩

/-- The end of a plain HANDSHAKE has one of the three results of a handshake (R195). -/
theorem result_of_toResult (r : HsResult) : r.toResult = .ok ∨ r.toResult = .timeout ∨ r.toResult = .protocol := by
  cases r <;> simp [HsResult.toResult]

/-- Settles O57: the bounds are those of the run and of the function it leads to. -/
theorem handshakeIsBounded : Obligations.HandshakeIsBounded := by
  unfold Obligations.HandshakeIsBounded
  intro s oracle hi hc
  have hbegun := handshakeIssued_begun s
  obtain ⟨k, p', hk, hrun⟩ := engineRun_handshake hc hbegun
  obtain ⟨heop, htrace⟩ := handshakeFunction_frame hbegun oracle
  rw [hsFinish_handshake _ (withPort p' _) heop] at hrun
  exact ⟨_, _, k, exec_handshake_idle hi, hrun, hk, rfl, result_of_toResult _, htrace⟩

/-! ### A device that is never ready -/

theorem neverReadyTrace_succ (n : Nat) : neverReadyTrace (n + 1) = [.sleep 1#32, .ready false] ++ neverReadyTrace n := by
  simp [neverReadyTrace, List.replicate_succ]

/-- Against a device that is never ready the outer loop takes three steps for each unit of budget, and one (R182 to R184). -/
theorem engineRun_neverReady {oracle : Oracle} (hc : oracle.Completes) (hr : ∀ n, (oracle n).ready = false) (n : Nat)
    {s : State} (hn : s.outerRemain.toNat = n) (p : EnvAnswer) :
    ∃ p', engineRun oracle (3 * n + 1) (engineAt .hsOuterCheck p s) = .next (hsFinish .timeout
      { s with outerRemain := 0#32, trace := s.trace ++ neverReadyTrace n, port := p' }) := by
  induction n generalizing s p with
  | zero =>
    have h : s.outerRemain = 0#32 := BitVec.eq_of_toNat_eq hn
    obtain ⟨p', hrun⟩ := engineRun_outerSpent (oracle := oracle) h p
    refine ⟨p', hrun.trans ?_⟩
    simp [neverReadyTrace, withPort, ← h]
  | succ n ih =>
    have h : s.outerRemain ≠ 0#32 := by bv_omega
    obtain ⟨p₁, hround⟩ := engineRun_outerRound hc h p
    have hnot : outerReady oracle s = false := hr _
    have hremain : (outerPolled oracle s).outerRemain.toNat = n := by
      rw [outerPolled_outerRemain]
      bv_omega
    obtain ⟨p', hrest⟩ := ih hremain p₁
    rw [hnot] at hround
    refine ⟨p', ?_⟩
    rw [show 3 * (n + 1) + 1 = 3 + (3 * n + 1) by omega, engineRun_trans hround hrest]
    simp [outerPolled, outerSlept, hsReady, hr, emit, neverReadyTrace_succ]

/-- Settles O55: the run of the never-ready outer loop from the command's next state. -/
theorem neverReadyHandshakeTimesOut : Obligations.NeverReadyHandshakeTimesOut := by
  unfold Obligations.NeverReadyHandshakeTimesOut
  intro s oracle hi hc hr
  obtain ⟨p', hrun⟩ := engineRun_neverReady hc hr s.outerBudget.toNat (s := handshakeIssued s) rfl (handshakeIssued s).port
  rw [hsFinish_handshake _ _ rfl] at hrun
  exact ⟨_, _, exec_handshake_idle hi, hrun, rfl, rfl, rfl, rfl, rfl, rfl⟩

end Sys2Proof.Machine
end

section
/-! SUPPORT. The fastest handshake (43_handshake.md R198): HANDSHAKE over the bus, one round of the outer loop and one attempt of
the inner loop, all as the agents' steps. -/

namespace Sys2Proof.Machine

open Sys2Proof

/-- Engine steps that are all given one answer are a run against the environment of that answer. -/
theorem actAll_replicate_engine (ans : EnvAnswer) (n : Nat) (s : State) :
    actAll (List.replicate n (.engine ans)) s = engineRun (fun _ => ans) n s := by
  induction n generalizing s with
  | zero => rfl
  | succ n ih =>
    rw [List.replicate_succ, actAll_cons (engineStepsFollowTheMicrostate s ans), ih, engineRun_succ]

/-- The CTRL write of HANDSHAKE, while idle (R180, R232). -/
theorem act_handshake {s : State} (hi : s.estate = .idle) :
    act (.host (Access.wr 0x000 3#32)) s = .next (handshakeIssued s) := by
  have hd : decodeBus s.cfg (Access.wr 0x000 3#32) = .instr (.wrCtrl Command.handshake.code) :=
    decodeBus_of_encode rfl (by simp [Instr.present, Instr.neededParams]) (by decide) rfl rfl
  rw [act_host_instr _ _ s hd, exec_wrCtrl_command (decodeCommand_code .handshake), ← exec_command]
  exact exec_handshake_idle hi

/-! ### The fields of the block after a reply, at the begin of the inner loop, and after the command -/

section

variable (ans : EnvAnswer) (s : State)

@[simp] theorem received_cfg : (received ans s).cfg = s.cfg := rfl
@[simp] theorem received_tx : (received ans s).tx = s.tx := rfl
@[simp] theorem received_rx : (received ans s).rx = trimFrame s.cfg ans.reply := rfl
@[simp] theorem received_outerRemain : (received ans s).outerRemain = s.outerRemain := rfl
@[simp] theorem received_innerCount : (received ans s).innerCount = s.innerCount := rfl
@[simp] theorem received_trace :
    (received ans s).trace = s.trace ++ [.exchange s.tx (some (trimFrame s.cfg ans.reply))] := rfl

@[simp] theorem innerBegun_cfg : (innerBegun s).cfg = s.cfg := rfl
@[simp] theorem innerBegun_tx : (innerBegun s).tx = s.tx := rfl
@[simp] theorem innerBegun_outerRemain : (innerBegun s).outerRemain = s.outerRemain := rfl
@[simp] theorem innerBegun_innerCount : (innerBegun s).innerCount = 0#32 := rfl
@[simp] theorem innerBegun_trace : (innerBegun s).trace = s.trace := rfl

@[simp] theorem handshakeIssued_cfg : (handshakeIssued s).cfg = s.cfg := rfl
@[simp] theorem handshakeIssued_tx : (handshakeIssued s).tx = encodeFrame s.cfg s.opcode s.param := rfl
@[simp] theorem handshakeIssued_outerRemain : (handshakeIssued s).outerRemain = s.outerBudget := rfl
@[simp] theorem handshakeIssued_readyCost : (handshakeIssued s).readyCost = s.readyCost := rfl
@[simp] theorem handshakeIssued_trace : (handshakeIssued s).trace = s.trace := rfl

end

/-! ### Rounds against an environment that is always ready -/

/-- An environment that is always ready and always replies `g`. -/
def alwaysAnswers (g : Frame) : Oracle := fun _ => answerWith g

@[simp] theorem outerReady_alwaysAnswers (g : Frame) (s : State) : outerReady (alwaysAnswers g) s = true := rfl

@[simp] theorem innerReady_alwaysAnswers (g : Frame) (s : State) : innerReady (alwaysAnswers g) s = true := rfl

theorem alwaysAnswers_completes (g : Frame) : (alwaysAnswers g).Completes := fun _ => rfl

/-- The transfer of R201 with the reply `g` (R165, R166, R119). -/
theorem hsXfer_alwaysAnswers (g : Frame) (s : State) :
    hsXfer (alwaysAnswers g) s = (true, withPort s.port (received (answerWith g) s)) := by
  simp [hsXfer, alwaysAnswers, answerWith, received, withPort, rxCheck_ok, emit]

section

variable {s : State} {g : Frame}

/-- One round of the outer loop, ready and acknowledged by the reply `g` (R182 to R186). -/
theorem engineRun_acknowledged (h : s.outerRemain ≠ 0#32) (hv : verifyFrame s.cfg g = true)
    (hack : g[0] = s.cfg.opcListening ∨ g[0] = s.cfg.opcBlListening) (p : EnvAnswer) :
    ∃ p', engineRun (alwaysAnswers g) 4 (engineAt .hsOuterCheck p s) = .next
      (engineAt .hsInnerCheck p' (innerBegun (received (answerWith g) (outerPaid (alwaysAnswers g) s)))) := by
  obtain ⟨p₁, hround⟩ := engineRun_outerRound (alwaysAnswers_completes g) h p
  obtain ⟨p₂, hxfer⟩ := engineRun_outerXfer (alwaysAnswers_completes g) p₁ (outerPaid (alwaysAnswers g) s)
  have hacked : acknowledges (hsXfer (alwaysAnswers g) (outerPaid (alwaysAnswers g) s)) = true := by
    simp [acknowledges, hsXfer_alwaysAnswers, withPort, answerWith, hv, hack]
  rw [if_pos hacked, hsXfer_alwaysAnswers] at hxfer
  exact ⟨p₂, engineRun_trans hround hxfer⟩

/-- One attempt of the inner loop, ready and echoed by the reply `g` (R188 to R192). -/
theorem engineRun_echoed (h : s.innerCount < s.innerBudget) (hv : verifyFrame s.cfg g = true) (hecho : g[0] = s.tx[0])
    (p : EnvAnswer) : ∃ p', engineRun (alwaysAnswers g) 5 (engineAt .hsInnerCheck p s) = .next
      (hsFinish .ok (withPort p' (received (answerWith g) (innerPolled (alwaysAnswers g) s)))) := by
  obtain ⟨p₁, hround⟩ := engineRun_innerRound (alwaysAnswers_completes g) h p
  obtain ⟨p₂, hxfer⟩ := engineRun_innerXfer (alwaysAnswers_completes g) p₁ (innerPolled (alwaysAnswers g) s)
  have hechoed : echoes (hsXfer (alwaysAnswers g) (innerPolled (alwaysAnswers g) s)) = true := by
    simp [echoes, hsXfer_alwaysAnswers, withPort, answerWith, hv, hecho]
  rw [if_pos hechoed, hsXfer_alwaysAnswers] at hxfer
  exact ⟨p₂, engineRun_trans hround hxfer⟩

end

/-! ### The fastest handshake -/

/-- The block at the end of the inner loop of R198, before the handshake ends: acknowledged by `l`, echoed by `e`. -/
def fastestEnd (l e : Frame) (s : State) : State :=
  received (answerWith e) (innerPolled (alwaysAnswers e)
    (innerBegun (received (answerWith l) (outerPaid (alwaysAnswers l) (handshakeIssued s)))))

section

variable (l e : Frame) (s : State)

theorem fastestEnd_tx : (fastestEnd l e s).tx = encodeFrame s.cfg s.opcode s.param := by simp [fastestEnd]

theorem fastestEnd_rx : (fastestEnd l e s).rx = trimFrame s.cfg e := by simp [fastestEnd, answerWith]

theorem fastestEnd_innerCount : (fastestEnd l e s).innerCount = 1#32 := by simp [fastestEnd]

theorem fastestEnd_outerRemain : (fastestEnd l e s).outerRemain = satSub (s.outerBudget - 1#32) s.readyCost := by
  simp [fastestEnd]

/-- The transactions of R198, with the settle of R189. -/
theorem fastestEnd_trace : (fastestEnd l e s).trace =
    s.trace ++ [.sleep 1#32, .ready true, .exchange (fastestEnd l e s).tx (some (trimFrame s.cfg l))] ++
      settleEvents s.cfg s.opcode ++ [.sleep 1#32, .ready true, .exchange (fastestEnd l e s).tx (some (trimFrame s.cfg e))] := by
  rw [fastestEnd_tx]
  simp [fastestEnd, answerWith, encodeFrame_opcode]

end

/-- Settles O60: the command, an acknowledged round, an echoed attempt. -/
theorem fastestHandshake : Obligations.FastestHandshake := by
  unfold Obligations.FastestHandshake
  intro s l e hi houter hinner hvl hack hve hecho
  have hattempt : 0#32 < s.innerBudget := by bv_omega
  obtain ⟨p₁, hrunl⟩ := engineRun_acknowledged (s := handshakeIssued s) houter hvl hack s.port
  obtain ⟨p₂, hrune⟩ := engineRun_echoed
    (s := innerBegun (received (answerWith l) (outerPaid (alwaysAnswers l) (handshakeIssued s)))) hattempt hve
    (hecho.trans (encodeFrame_opcode s.cfg s.opcode s.param).symm) p₁
  have houtersteps := (actAll_replicate_engine (answerWith l) 4 (handshakeIssued s)).trans hrunl
  have hrun : actAll ([.host (Access.wr 0x000 3#32)] ++ List.replicate 4 (.engine (answerWith l)) ++
      List.replicate 5 (.engine (answerWith e))) s = .next (hsFinish .ok (withPort p₂ (fastestEnd l e s))) := by
    rw [List.append_assoc, List.singleton_append, actAll_cons (act_handshake hi), actAll_append houtersteps,
      actAll_replicate_engine]
    exact hrune
  rw [hsFinish_handshake .ok (withPort p₂ _) rfl] at hrun
  exact ⟨_, hrun, rfl, rfl, fastestEnd_innerCount l e s, fastestEnd_rx l e s, fastestEnd_outerRemain l e s,
    fastestEnd_trace l e s, fastestEnd_tx l e s⟩

end Sys2Proof.Machine
end

section
/-! SUPPORT. The step SQ_EVAL of the attempt sequencer and the runs of IDENTIFY and CONFIGURE whose every handshake times out
(44_attempt_sequencer.md R211 to R218). -/

namespace Sys2Proof.Machine

open Sys2Proof

/-! ### The step SQ_EVAL -/

theorem versionOf_lo {cfg : Config} (rx : Frame) (h : cfg.versionField = .lo) :
    versionOf cfg rx = rx[1].setWidth 16 := by
  rw [versionOf, h]
  exact lo16_eq_setWidth _

theorem versionOf_hi {cfg : Config} (rx : Frame) (h : cfg.versionField = .hi) :
    versionOf cfg rx = (rx[1] >>> 16).setWidth 16 := by
  rw [versionOf, h]
  exact hi16_eq_setWidth_shiftRight _

section

variable {s : State} (p : EnvAnswer)

/-- R212. -/
theorem engineStep_sqEval_identify (hop : s.eop = .identify) : engineStep (engineAt .sqEval p s) =
    if s.hsRes = .ok then
      if s.minFw ≤ versionOf s.cfg s.rx then
        endLong .identified { withPort p s with version := versionOf s.cfg s.rx }
      else endLong .notDetected { withPort p s with version := versionSentinel }
    else if idAttempts ≤ s.attempt + 1#32 then endLong .notDetected { withPort p s with version := versionSentinel }
    else engineAt .sqStart p { s with attempt := s.attempt + 1#32 } := by
  have heval : engineStep (engineAt .sqEval p s) = evalIdentify (engineAt .sqEval p s) := by
    change sqEval _ = _
    simp only [sqEval, engineAt, hop]
  exact heval

/-- R213. -/
theorem engineStep_sqEval_configure (hop : s.eop = .configure) : engineStep (engineAt .sqEval p s) =
    if s.hsRes = .ok then endLong .configured (withPort p s)
    else if cfgAttempts ≤ s.attempt + 1#32 then endLong .configIncomplete (withPort p s)
    else engineAt .sqStart p { s with attempt := s.attempt + 1#32 } := by
  have heval : engineStep (engineAt .sqEval p s) = evalConfigure (engineAt .sqEval p s) := by
    change sqEval _ = _
    simp only [sqEval, engineAt, hop]
  exact heval

end

/-- Settles O34: the rule of SQ_EVAL for each of the two commands, with the version in either half of RX[1]. -/
theorem sequencerEvaluation : Obligations.SequencerEvaluation := by
  unfold Obligations.SequencerEvaluation
  intro s ans he
  refine ⟨fun hop => ?_, fun hop => ?_⟩
  · rw [act_engineAt he, engineStep_sqEval_identify ans hop]
    cases hfield : s.cfg.versionField with
    | lo =>
      rw [versionOf_lo s.rx hfield]
      rfl
    | hi =>
      rw [versionOf_hi s.rx hfield]
      rfl
  · rw [act_engineAt he, engineStep_sqEval_configure ans hop]
    rfl

/-! ### An attempt against a device that is never ready -/

/-- The transactions between the end of an attempt and the handshake of the next, attempt `a`: a device reset and a backoff before
each attempt of CONFIGURE but its first (R211, R214, R215). -/
def restartEvents (op : EOp) (a : Nat) : List PortEvent :=
  if op = .configure ∧ a ≠ 0 then [.resetDev, .sleep (BitVec.ofNat 32 (300 * a))] else []

/-- The transactions of the first attempts of a command, as many as the last argument says, with `n` units of outer budget, when
each times out. -/
def attemptsTrace (op : EOp) (n : Nat) : Nat → List PortEvent
  | 0 => []
  | a + 1 => attemptsTrace op n a ++ restartEvents op a ++ neverReadyTrace n

/-- The engine steps of the first attempts of a command, as many as the last argument says, when each times out: one
for each restart transaction, SQ_START, the handshake, SQ_EVAL. -/
def attemptsSteps (op : EOp) (n : Nat) : Nat → Nat
  | 0 => 0
  | a + 1 => attemptsSteps op n a + ((restartEvents op a).length + (3 * n + 3))

/-- The attempts a command makes (R17, R210, R216). -/
def attemptLimit : EOp → Nat
  | .identify => 5
  | .configure => 10
  | .handshake | .none => 0

/-- In the block `t`, attempt `a` of the command `op` is next, and the attempts before it, from the block `s`, have all timed
out. -/
structure AttemptBegins (op : EOp) (a : Nat) (s t : State) : Prop where
  eop : t.eop = op
  attempt : t.attempt = BitVec.ofNat 32 a
  outerBudget : t.outerBudget = s.outerBudget
  version : t.version = s.version
  trace : t.trace = s.trace ++ attemptsTrace op s.outerBudget.toNat a

/-- The block after an attempt whose restart transactions are `restart` and whose handshake timed out on a device that is never
ready (R195, R196). -/
def attemptTimedOut (restart : List PortEvent) (s : State) : State :=
  { s with outerRemain := 0#32, innerCount := 0#32, hsRes := .timeout,
           trace := s.trace ++ restart ++ neverReadyTrace s.outerBudget.toNat }

section

variable {oracle : Oracle} {op : EOp} {a : Nat} {s t : State}

@[simp] theorem attemptTimedOut_eop (restart : List PortEvent) (s : State) :
    (attemptTimedOut restart s).eop = s.eop := rfl
@[simp] theorem attemptTimedOut_attempt (restart : List PortEvent) (s : State) :
    (attemptTimedOut restart s).attempt = s.attempt := rfl

theorem attemptTimedOut_failed (restart : List PortEvent) (s : State) : (attemptTimedOut restart s).hsRes ≠ .ok := nofun

theorem attemptsTrace_identify (n a : Nat) :
    attemptsTrace .identify n a = (List.replicate a (neverReadyTrace n)).flatten := by
  induction a with
  | zero => rfl
  | succ a ih => simp [attemptsTrace, restartEvents, ih, List.replicate_succ']

theorem attemptsTrace_configure (n a : Nat) : attemptsTrace .configure n a = exhaustedTrace n a := by
  induction a with
  | zero => rfl
  | succ a ih => simp [attemptsTrace, exhaustedTrace, restartEvents, ih]

theorem attemptsSteps_identify (n a : Nat) : attemptsSteps .identify n a = a * (3 * n + 3) := by
  induction a with
  | zero => simp [attemptsSteps]
  | succ a ih => simp [attemptsSteps, restartEvents, ih, Nat.succ_mul]

/-- The first attempt of CONFIGURE has no restart, each later one a restart of two transactions (R214, R215). -/
theorem attemptsSteps_configure (n a : Nat) :
    attemptsSteps .configure n (a + 1) = (a + 1) * (3 * n + 3) + 2 * a := by
  induction a with
  | zero => simp [attemptsSteps, restartEvents]
  | succ a ih =>
    have hrestart : (restartEvents .configure (a + 1)).length = 2 := by simp [restartEvents]
    rw [attemptsSteps, ih, hrestart, Nat.succ_mul (a + 1)]
    omega

/-- A sequencer's handshake with a device that is never ready leads to SQ_EVAL with TIMEOUT (R195 to R197). -/
theorem engineRun_handshakeTimesOut (hc : oracle.Completes) (hr : ∀ n, (oracle n).ready = false) (hop : s.eop ≠ .handshake)
    (restart : List PortEvent) (p : EnvAnswer) : ∃ p', engineRun oracle (3 * s.outerBudget.toNat + 1)
      (engineAt .hsOuterCheck p (hsBegin { s with trace := s.trace ++ restart })) =
        .next (engineAt .sqEval p' (attemptTimedOut restart s)) := by
  obtain ⟨p', hrun⟩ := engineRun_neverReady hc hr s.outerBudget.toNat
    (s := hsBegin { s with trace := s.trace ++ restart }) rfl p
  exact ⟨p', hrun.trans (congrArg _ (hsFinish_sequencer .timeout _ hop))⟩

/-- SQ_START, with the reset and the backoff where the command has them, leads to the handshake (R211, R214, R215). -/
theorem engineRun_restart (hc : oracle.Completes) (ha : a < 10) (h : AttemptBegins op a s t) (p : EnvAnswer) :
    ∃ p', engineRun oracle ((restartEvents op a).length + 1) (engineAt .sqStart p t) =
      .next (engineAt .hsOuterCheck p' (hsBegin { t with trace := t.trace ++ restartEvents op a })) := by
  have hfirst : 1#32 ≤ t.attempt ↔ a ≠ 0 := by
    rw [h.attempt, BitVec.le_def, BitVec.toNat_ofNat, BitVec.toNat_ofNat]
    omega
  have hstart : (t.eop = .configure ∧ 1#32 ≤ t.attempt) ↔ (op = .configure ∧ a ≠ 0) := by rw [h.eop, hfirst]
  by_cases hrestart : op = .configure ∧ a ≠ 0
  · have hbackoff : 300#32 * t.attempt = BitVec.ofNat 32 (300 * a) := by rw [h.attempt, BitVec.ofNat_mul]
    simp only [restartEvents, if_pos hrestart]
    refine ⟨oracle (emit .resetDev t).trace.length, ?_⟩
    change engineRun oracle 3 _ = _
    rw [engineRun_engineAt, engineStep_sqStart, if_pos (hstart.2 hrestart), engineRun_engineAt,
      engineStep_sqReset _ (hc _), engineRun_engineAt, engineStep_sqBackoff _ (hc _)]
    simp [engineRun, engineAt, hsBegin, emit, hbackoff]
  · simp only [restartEvents, if_neg hrestart, List.append_nil]
    refine ⟨oracle t.trace.length, ?_⟩
    change engineRun oracle 1 _ = _
    rw [engineRun_engineAt, engineStep_sqStart, if_neg (mt hstart.1 hrestart)]
    rfl

/-- A whole attempt: its restart, its handshake, which times out, and its evaluation. -/
theorem engineRun_attempt (hc : oracle.Completes) (hr : ∀ n, (oracle n).ready = false) (ha : a < attemptLimit op)
    (h : AttemptBegins op a s t) (p : EnvAnswer) :
    ∃ p', engineRun oracle ((restartEvents op a).length + (3 * s.outerBudget.toNat + 3)) (engineAt .sqStart p t) =
      .next (engineStep (engineAt .sqEval p' (attemptTimedOut (restartEvents op a) t))) := by
  have hop : t.eop ≠ .handshake := by
    rw [h.eop]
    rintro rfl
    exact absurd ha (Nat.not_lt_zero _)
  have hlimit : attemptLimit op ≤ 10 := by cases op <;> decide
  obtain ⟨p₁, hstart⟩ := engineRun_restart hc (ha.trans_le hlimit) h p
  obtain ⟨p₂, htimeout⟩ := engineRun_handshakeTimesOut hc hr hop (restartEvents op a) p₁
  have hsteps : (restartEvents op a).length + (3 * s.outerBudget.toNat + 3) =
      (restartEvents op a).length + 1 + (3 * t.outerBudget.toNat + 1) + 1 := by
    rw [h.outerBudget]
    omega
  rw [hsteps]
  exact ⟨_, engineRun_trans (engineRun_trans hstart htimeout) (engineRun_engineAt oracle 0 .sqEval p₂ _)⟩

/-- After a timeout SQ_EVAL begins the next attempt, while the command has one (R212, R213). -/
theorem engineStep_sqEval_retry (ha : a + 1 < attemptLimit op) (h : AttemptBegins op a s t) (p : EnvAnswer)
    (restart : List PortEvent) : engineStep (engineAt .sqEval p (attemptTimedOut restart t)) =
      engineAt .sqStart p { attemptTimedOut restart t with attempt := BitVec.ofNat 32 (a + 1) } := by
  have hop : (attemptTimedOut restart t).eop = op := (attemptTimedOut_eop restart t).trans h.eop
  have hfailed := attemptTimedOut_failed restart t
  have hnext : (attemptTimedOut restart t).attempt + 1#32 = BitVec.ofNat 32 (a + 1) := by
    rw [attemptTimedOut_attempt, h.attempt, BitVec.ofNat_add]
  cases op with
  | identify =>
    have hmore : ¬idAttempts ≤ BitVec.ofNat 32 (a + 1) := by
      unfold attemptLimit at ha
      unfold idAttempts
      bv_omega
    rw [engineStep_sqEval_identify p hop, if_neg hfailed, hnext, if_neg hmore]
  | configure =>
    have hmore : ¬cfgAttempts ≤ BitVec.ofNat 32 (a + 1) := by
      unfold attemptLimit at ha
      unfold cfgAttempts
      bv_omega
    rw [engineStep_sqEval_configure p hop, if_neg hfailed, hnext, if_neg hmore]
  | handshake | none => exact absurd ha (Nat.not_lt_zero _)

/-- The trace after one more attempt that timed out. -/
theorem attemptTimedOut_trace (h : AttemptBegins op a s t) : (attemptTimedOut (restartEvents op a) t).trace =
    s.trace ++ attemptsTrace op s.outerBudget.toNat (a + 1) := by
  simp [attemptTimedOut, attemptsTrace, h.trace, h.outerBudget]

/-- Before its last attempt a command that times out makes attempt after attempt (R217, R218). -/
theorem engineRun_attempts (hc : oracle.Completes) (hr : ∀ n, (oracle n).ready = false) (hbegin : AttemptBegins op 0 s s)
    (ha : a < attemptLimit op) (p : EnvAnswer) : ∃ p' t, AttemptBegins op a s t ∧
      engineRun oracle (attemptsSteps op s.outerBudget.toNat a) (engineAt .sqStart p s) =
        .next (engineAt .sqStart p' t) := by
  induction a with
  | zero => exact ⟨p, s, hbegin, rfl⟩
  | succ a ih =>
    obtain ⟨p₁, t, h, hrun⟩ := ih (Nat.lt_of_succ_lt ha)
    obtain ⟨p₂, hattempt⟩ := engineRun_attempt hc hr (Nat.lt_of_succ_lt ha) h p₁
    rw [engineStep_sqEval_retry ha h] at hattempt
    have hnext : AttemptBegins op (a + 1) s
        { attemptTimedOut (restartEvents op a) t with attempt := BitVec.ofNat 32 (a + 1) } :=
      ⟨h.eop, rfl, h.outerBudget, h.version, attemptTimedOut_trace h⟩
    exact ⟨p₂, _, hnext, engineRun_trans hrun hattempt⟩

/-- A run of attempts that all time out, the last of them included, ends with its evaluation. -/
theorem engineRun_exhausted (hc : oracle.Completes) (hr : ∀ n, (oracle n).ready = false) (hbegin : AttemptBegins op 0 s s)
    (ha : a < attemptLimit op) : ∃ p t, AttemptBegins op a s t ∧
      engineRun oracle (attemptsSteps op s.outerBudget.toNat (a + 1)) (engineAt .sqStart s.port s) =
        .next (engineStep (engineAt .sqEval p (attemptTimedOut (restartEvents op a) t))) := by
  obtain ⟨p₁, t, h, hrun⟩ := engineRun_attempts hc hr hbegin ha s.port
  obtain ⟨p₂, hattempt⟩ := engineRun_attempt hc hr ha h p₁
  exact ⟨p₂, t, h, engineRun_trans hrun hattempt⟩

/-- A command at SQ_START with ATTEMPT 0 begins its first attempt. -/
theorem attemptBegins_first (hop : s.eop = op) (hattempt : s.attempt = 0#32) : AttemptBegins op 0 s s :=
  ⟨hop, hattempt, rfl, rfl, (List.append_nil _).symm⟩

/-- IDENTIFY after five timeouts (R212, R218). -/
theorem identify_exhausted (hc : oracle.Completes) (hr : ∀ n, (oracle n).ready = false) (he : s.estate = .sqStart)
    (hop : s.eop = .identify) (hattempt : s.attempt = 0#32) :
    ∃ u, engineRun oracle (5 * (3 * s.outerBudget.toNat + 3)) s = .next u ∧
      u.estate = .idle ∧ u.result = .notDetected ∧ u.version = 9999#16 ∧ u.attempt = 4#32 ∧
      u.trace = s.trace ++ (List.replicate 5 (neverReadyTrace s.outerBudget.toNat)).flatten := by
  obtain ⟨p, t, h, hrun⟩ := engineRun_exhausted (a := 4) hc hr (attemptBegins_first hop hattempt) (by decide)
  have hs : engineAt .sqStart s.port s = s := by rw [engineAt, ← he]
  have hend : (attemptTimedOut (restartEvents .identify 4) t).eop = .identify := (attemptTimedOut_eop _ t).trans h.eop
  have hlast : idAttempts ≤ (attemptTimedOut (restartEvents .identify 4) t).attempt + 1#32 := by
    rw [attemptTimedOut_attempt, h.attempt]
    decide
  rw [hs, attemptsSteps_identify, engineStep_sqEval_identify p hend, if_neg (attemptTimedOut_failed _ t),
    if_pos hlast] at hrun
  have htrace := attemptTimedOut_trace h
  rw [attemptsTrace_identify] at htrace
  exact ⟨_, hrun, rfl, rfl, rfl, h.attempt, htrace⟩

/-- CONFIGURE after ten timeouts (R213, R217). -/
theorem configure_exhausted (hc : oracle.Completes) (hr : ∀ n, (oracle n).ready = false) (he : s.estate = .sqStart)
    (hop : s.eop = .configure) (hattempt : s.attempt = 0#32) :
    ∃ u, engineRun oracle (10 * (3 * s.outerBudget.toNat + 3) + 18) s = .next u ∧
      u.estate = .idle ∧ u.result = .configIncomplete ∧ u.version = s.version ∧ u.attempt = 9#32 ∧
      u.trace = s.trace ++ exhaustedTrace s.outerBudget.toNat 10 := by
  obtain ⟨p, t, h, hrun⟩ := engineRun_exhausted (a := 9) hc hr (attemptBegins_first hop hattempt) (by decide)
  have hs : engineAt .sqStart s.port s = s := by rw [engineAt, ← he]
  have hend : (attemptTimedOut (restartEvents .configure 9) t).eop = .configure := (attemptTimedOut_eop _ t).trans h.eop
  have hlast : cfgAttempts ≤ (attemptTimedOut (restartEvents .configure 9) t).attempt + 1#32 := by
    rw [attemptTimedOut_attempt, h.attempt]
    decide
  rw [hs, attemptsSteps_configure, engineStep_sqEval_configure p hend, if_neg (attemptTimedOut_failed _ t),
    if_pos hlast] at hrun
  have htrace := attemptTimedOut_trace h
  rw [attemptsTrace_configure] at htrace
  exact ⟨_, hrun, rfl, rfl, h.version, h.attempt, htrace⟩

end

/-- The block after an accepted IDENTIFY or CONFIGURE command, its CTRL code and its probe given (R210, R216). -/
def sequencerIssued (op : EOp) (code : Word) (probe : Frame) (s : State) : State :=
  { s with
    tx := probe, eop := op, attempt := 0#32, result := .none, estate := .sqStart,
    busLog := s.busLog ++ [.written 0x000 code] }

theorem exec_identify_idle {s : State} (hi : s.estate = .idle) : exec .identify s =
    .next (sequencerIssued .identify 4#32 (encodeFrame s.cfg s.cfg.opcReportInfo zeroParams) s) :=
  have ⟨_, hidentify, _⟩ := longCommandsStart s hi
  hidentify

theorem exec_configure_idle {s : State} (hi : s.estate = .idle) : exec .configure s =
    .next (sequencerIssued .configure 5#32 (encodeFrame s.cfg s.cfg.opcSetup s.param) s) :=
  have ⟨_, _, hconfigure⟩ := longCommandsStart s hi
  hconfigure

/-- Settles O56: the runs of the exhausted sequencers from the next states of the two commands. -/
theorem exhaustedSequencersEnd : Obligations.ExhaustedSequencersEnd := by
  unfold Obligations.ExhaustedSequencersEnd
  intro s oracle hi hc hr
  obtain ⟨u, hidentify⟩ := identify_exhausted hc hr
    (s := sequencerIssued .identify 4#32 (encodeFrame s.cfg s.cfg.opcReportInfo zeroParams) s) rfl rfl rfl
  obtain ⟨v, hconfigure⟩ := configure_exhausted hc hr
    (s := sequencerIssued .configure 5#32 (encodeFrame s.cfg s.cfg.opcSetup s.param) s) rfl rfl rfl
  exact ⟨⟨_, u, exec_identify_idle hi, hidentify⟩, ⟨_, v, exec_configure_idle hi, hconfigure⟩⟩

end Sys2Proof.Machine
end

section
/-! The commands NOP and CLEAR_STATUS (45_control.md R230, R231). -/

namespace Sys2Proof.Machine

open Sys2Proof

/-- The pseudocode of NOP (R230). -/
theorem commandBody_nop (s : State) : commandBody .nop s = s := rfl

/-- The pseudocode of CLEAR_STATUS (R231). -/
theorem commandBody_clearStatus (s : State) : commandBody .clearStatus s = { s with
    result := .none, crcOk := false, rxKind := .other, xferFail := false, cmdRejected := false, werr := false } := rfl

/-- Settles O20: each command while idle is its pseudocode and the write of its code to CTRL. -/
theorem nopAndClearStatusCommands : Obligations.NopAndClearStatusCommands := by
  unfold Obligations.NopAndClearStatusCommands
  intro s hi
  constructor
  · refine (exec_command_idle hi .nop).trans ?_
    rw [commandBody_nop]
    rfl
  · refine (exec_command_idle hi .clearStatus).trans ?_
    rw [commandBody_clearStatus]
    rfl

end Sys2Proof.Machine
end

section
/-! Block reset (70_reset_and_hazards.md R270, R271). -/

namespace Sys2Proof.Machine

open Sys2Proof

/-- Block reset ends a long command wherever it stands (R271). -/
@[simp] theorem blockReset_estate (s : State) : (blockReset s).estate = .idle := rfl

/-- Settles O37: block reset is the model's `blockReset`, which leaves the engine in IDLE, where it has no step. -/
theorem blockResetStep : Obligations.BlockResetStep := by
  unfold Obligations.BlockResetStep
  intro s
  obtain ⟨_, engine_of_idle⟩ := idleIsLeftOnlyByLongCommands
  exact ⟨blockReset s, act_blockReset s, rfl, fun ans => engine_of_idle _ ans (blockReset_estate s)⟩

end Sys2Proof.Machine
end
